-- ==== Sys2Proof/Word.lean ====
section
/-! DEFINITION. The word types of the RDB-1 block and nothing else: R10 numbers the bits of every value from 0 at
the least significant end, which is `BitVec`'s own numbering. -/

namespace Sys2Proof

/-- A 32-bit word: a command word, the data of one host access, one output entry (R21, R54, R65). -/
abbrev Word := BitVec 32

/-- One byte of the frame stream (R102). -/
abbrev Byte := BitVec 8

/-- One scratch entry, a 64-bit two's-complement value (R44). Arithmetic on this type is the `s64` arithmetic of R11:
every result is taken modulo 2^64. -/
abbrev Sample := BitVec 64

end Sys2Proof
end

