-- ==== Sys2Proof/Syntax.lean ====
section
/-! DEFINITION. The RDB-1 command set as syntax: one constructor for each row of spec/opcode_table.json (R75). -/

namespace Sys2Proof

/-- Which scratch buffer a command names: field B, 0 = S0 and 1 = S1 (R74, R91). -/
inductive Buf where
  | s0
  | s1
deriving DecidableEq, Repr

/-- The commands of RDB-1 (R75). Operands are the numbers the fields stand for: every field is an unsigned number
taken as `zext` of its bits (R74, R78). -/
inductive Instr where
  /-- NOP (R96). -/
  | nop
  /-- FSTART: open a frame (R97). -/
  | fstart
  /-- FCFG: check and fix the frame configuration (R98). -/
  | fcfg
  /-- GETB n: unsigned read of n stream bits (R112). -/
  | getb (n : Nat)
  /-- GETBS n: signed read of n stream bits (R112). -/
  | getbs (n : Nat)
  /-- RESID s<b>: decode a residual section into buffer b (R113). -/
  | resid (b : Buf)
  /-- RECON s<b>: reconstruct the samples of buffer b in place (R126). -/
  | recon (b : Buf)
  /-- WSHL s<b>, k: restore k wasted bits in buffer b (R133). -/
  | wshl (b : Buf) (k : Nat)
  /-- EMIT s<b>, ch: write buffer b to output channel ch (R136). -/
  | emit (b : Buf) (ch : Nat)
  /-- DECOR: reverse the joint-stereo encoding of S0 and S1 (R139). -/
  | decor
  /-- FEND: check the footer and close the frame (R142). -/
  | fend
deriving DecidableEq, Repr

end Sys2Proof
end

