-- ==== Sys2Proof/WellFormed.lean ====
section
/-! DEFINITION. Which commands a command word can carry: each operand fits its field of format C (R74). A GETB of
more than 32 bits is well formed: R76 says that it matches its pattern and raises ArgumentError when it runs. -/

namespace Sys2Proof

/-- Field N has 6 bits, field CH has 3 bits (R74); field B is exactly `Buf`. -/
def WellFormed : Instr → Bool
  | .nop => true
  | .fstart => true
  | .fcfg => true
  | .getb n => decide (n < 64)
  | .getbs n => decide (n < 64)
  | .resid _ => true
  | .recon _ => true
  | .wshl _ k => decide (k < 64)
  | .emit _ ch => decide (ch < 8)
  | .decor => true
  | .fend => true

end Sys2Proof
end

