-- ==== Sys2Proof/Decode.lean ====
section
/-! DEFINITION. Decoding a 32-bit command word (R73 to R76) and, after it, the encoder. There is one format, one
length and no fetch from memory: a command word is the data of one host write to CMD (R30, R71). -/

namespace Sys2Proof

/-- Why a word is no command (R76). Either way issuing it raises ArgumentError. -/
inductive Illegal where
  /-- OP is 0xA to 0xF. -/
  | reservedOpcode
  /-- OP is 0x0 to 0x9 and a reserved bit or a field the opcode does not use is not 0. -/
  | reservedBits
deriving DecidableEq, Repr

/-- Field OP, bits 31:28 (R74). -/
def fieldOp (w : Word) : BitVec 4 := w.extractLsb' 28 4

/-- Field N, bits 13:8, as a number (R74). -/
def fieldN (w : Word) : Nat := (w.extractLsb' 8 6).toNat

/-- Field CH, bits 6:4, as a number (R74). -/
def fieldCh (w : Word) : Nat := (w.extractLsb' 4 3).toNat

/-- Field B, bit 0 (R74). -/
def fieldB (w : Word) : Buf := if w.getLsbD 0 then .s1 else .s0

/-- One row of the opcode map: a word selects it when `word & mask = pattern` (R75). -/
structure OpcodeRow where
  pattern : Word
  mask : Word
  /-- The command, from the word's operand fields (R78). -/
  build : Word → Instr

/-- The opcode map, row by row as R75 prints it. -/
def opcodeTable : List OpcodeRow :=
  [ ⟨0x00000000, 0xFFFFFFFF, fun _ => .nop⟩,
    ⟨0x10000000, 0xFFFFFFFF, fun _ => .fstart⟩,
    ⟨0x20000000, 0xFFFFFFFF, fun _ => .fcfg⟩,
    ⟨0x30000000, 0xFFFFC0FF, fun w => .getb (fieldN w)⟩,
    ⟨0x30010000, 0xFFFFC0FF, fun w => .getbs (fieldN w)⟩,
    ⟨0x40000000, 0xFFFFFFFE, fun w => .resid (fieldB w)⟩,
    ⟨0x50000000, 0xFFFFFFFE, fun w => .recon (fieldB w)⟩,
    ⟨0x60000000, 0xFFFFC0FE, fun w => .wshl (fieldB w) (fieldN w)⟩,
    ⟨0x70000000, 0xFFFFFF8E, fun w => .emit (fieldB w) (fieldCh w)⟩,
    ⟨0x80000000, 0xFFFFFFFF, fun _ => .decor⟩,
    ⟨0x90000000, 0xFFFFFFFF, fun _ => .fend⟩ ]

/-- The command a word stands for, or the name of what makes it illegal (R75, R76). -/
def decode (w : Word) : Except Illegal Instr :=
  match opcodeTable.find? (fun row => w &&& row.mask == row.pattern) with
  | some row => .ok (row.build w)
  | none => .error (if 10 ≤ (fieldOp w).toNat then .reservedOpcode else .reservedBits)

/-- Bit B of a buffer (R74). -/
def Buf.bit : Buf → Word
  | .s0 => 0
  | .s1 => 1

/-- Field OP of a command (R75). -/
def opcodeOf : Instr → BitVec 4
  | .nop => 0x0
  | .fstart => 0x1
  | .fcfg => 0x2
  | .getb _ => 0x3
  | .getbs _ => 0x3
  | .resid _ => 0x4
  | .recon _ => 0x5
  | .wshl _ _ => 0x6
  | .emit _ _ => 0x7
  | .decor => 0x8
  | .fend => 0x9

/-- The operand fields of a command in place: S at bit 16, N at 13:8, CH at 6:4, B at 0, every other bit 0 (R74). -/
def operandBits : Instr → Word
  | .nop => 0
  | .fstart => 0
  | .fcfg => 0
  | .getb n => BitVec.ofNat 32 n <<< 8
  | .getbs n => 0x10000 ||| (BitVec.ofNat 32 n <<< 8)
  | .resid b => b.bit
  | .recon b => b.bit
  | .wshl b k => (BitVec.ofNat 32 k <<< 8) ||| b.bit
  | .emit b ch => (BitVec.ofNat 32 ch <<< 4) ||| b.bit
  | .decor => 0
  | .fend => 0

/-- The command word of a command (R74, R75); it stands for `i` when `i` is well formed. -/
def encode (i : Instr) : Word :=
  ((opcodeOf i).setWidth 32 <<< 28) ||| operandBits i

/-- What the decoder reads from a table row's bits: the low `nbits` bits of `w`, every bit above them 0. A command is
one 32-bit word (R73), so a row of more than 32 bits is no command. -/
def decodeTableWord (nbits w : Nat) : Option Instr :=
  if 32 < nbits then none
  else
    match decode (BitVec.ofNat 32 (w % 2 ^ nbits)) with
    | .ok i => some i
    | .error _ => none

end Sys2Proof
end

