-- ==== Sys2Proof/Config.lean ====
section
/-! DEFINITION. The parameters RDB-1 fixes (R9), the parameters the spec leaves OPEN, and the free values. An
`opaque` constant has no body: nothing can be proved of its value. -/

namespace Sys2Proof.Config

/-- `CRC16_POLY` (R9, R108). Assumption 11 (PRESUMED by the spec itself, unsafe for another polynomial). -/
def crc16Poly : BitVec 16 := 0x8005

/-- `CRC8_POLY` (R9, R109). Assumption 11 (PRESUMED by the spec itself, unsafe for another polynomial). -/
def crc8Poly : BitVec 8 := 0x07

/-- `MAX_BLOCK` (R9): the largest legal block size, and the number of entries of a scratch buffer (R44). -/
def maxBlock : Nat := 65536

/-- `FRAME_SIZE_MAX` (R9, R145). -/
def frameSizeMax : Nat := 2147483647

/-- The constant of register ID (R24). -/
def idWord : Word := 0x52444231

/-- The free values: what a host read of a register other than ID, CTRL and STATUS returns while BUSY = 1 (R57:
"A model gives such a read a free value (a draw)"), and what a read of a caller's buffer entry that nothing has
written returns. The argument is the number of draws made before. Assumption 5
(DESIGN CHOICE, safe). -/
opaque freeWord : Nat → Word

/-- OPEN parameter `RDB_BASE` (R66): the platform address of the register window. No rule depends on it.
Assumption 10 (DEDUCED, safe). -/
opaque rdbBase : Nat

/-- OPEN parameter `OUT_ADDR(ch, idx)` (R65): the platform address of an output entry. No rule depends on it. -/
opaque outAddr : Nat → Nat → Nat

/-- OPEN parameter `RDB_IRQ_LINE` (R157): the line of the platform's interrupt controller. No rule depends on it. -/
opaque irqLine : Nat

/-- How many sequencer steps one machine step takes when no pause is scheduled. It is above the number of steps of
every command (R179: every loop is bounded), so an undisturbed command stops by itself. Assumption 2 (DESIGN CHOICE, safe). -/
def maxBurst : Nat := 18446744073709551616

end Sys2Proof.Config
end

