-- ==== Sys2Proof/Machine/State.lean ====
section
/-! DEFINITION. The state of the RDB-1 block and of what stands outside it that its commands read or write (R51):
plain data, one field for each piece of state the spec names, then the model's own fields (the environment's events
and the free-value counter). INVENTORY.md, '## State', lists each with its rule and its reset value. -/

namespace Sys2Proof.Machine

/-- A space of `w`-bit entries by number: the scratch space by entry index (R44), the output space by `outKey`
(R51). Canonical form: keys strictly rising, so equal contents are equal lists. A key that is not listed has no
value: its valid tag is clear (R45), or nothing has written it. -/
abbrev Memory (w : Nat) := List (Nat × BitVec w)

/-- STATE (R18). The values 5, 6 and 7 never occur, so they have no constructor. -/
inductive BlockState where
  | idle
  | hdr
  | body
  | error
  | fatal
deriving DecidableEq, Repr

/-- PCFG.KIND (R37). -/
inductive PredictorKind where
  | fixed
  | lpc
deriving DecidableEq, Repr

/-- The RDB's errors (R148), each with the sample index and channel its rule names (R150). They are not faults of
the model: raising one is error entry (R151), a next state. -/
inductive RdbError where
  | reservedField
  | indivisiblePartitions
  | invalidLpcShift
  | invalidPadding
  | crc16Mismatch
  | frameTooLarge
  | invalidPartitionOrder
  | residualOverflow (i : Nat)
  | unexpectedEndOfStream (i : Option Nat)
  | argumentError
  | bitDepthOverflow (ch i : Nat)
  | invariantViolation
deriving DecidableEq, Repr

/-- Where RESID stands in its residual section (R113): the buffer, whether the method is 1 (R115), the partition
order (R116), the current partition p (R118) and the index of the next residual. -/
structure ResidPos where
  buf : Buf
  wide : Bool
  order : Nat
  part : Nat
  idx : Nat
deriving DecidableEq, Repr

/-- What the value of a `ReadBits` in progress is for: the line of a command's pseudocode that uses it. -/
inductive Purpose where
  /-- GETB or GETBS of `n` bits (R112). -/
  | getb (signed : Bool) (n : Nat)
  /-- The coding method (R115). -/
  | method (b : Buf)
  /-- The partition order (R116). -/
  | partitionOrder (b : Buf) (wide : Bool)
  /-- A partition's parameter (R118). -/
  | parameter (here : ResidPos)
  /-- The raw width of an escaped partition (R119). -/
  | rawWidth (here : ResidPos)
  /-- One escaped residual of raw width `w` (R119). -/
  | rawResidual (here : ResidPos) (w : Nat)
  /-- The remainder of a Rice code with parameter `k` and quotient `q` (R120). -/
  | remainder (here : ResidPos) (k q : Nat)
  /-- The footer's padding (R143). -/
  | padding
  /-- The footer's CRC-16 field, to be compared with `want` (R144). -/
  | footerCrc (want : BitVec 16)
deriving DecidableEq, Repr

/-- The point a command in progress has reached in its pseudocode, with its local variables. The block is BUSY while
there is one (R19). -/
inductive Task where
  | nop
  | fstart
  | fcfg
  /-- GETB before its argument check (R112). -/
  | getbStart (signed : Bool) (n : Nat)
  /-- `ReadBits` with `left` bits still to read and the value `acc` of the bits read (R104). -/
  | reading (left acc : Nat) (use : Purpose)
  /-- RESID before PcfgCheck (R114). -/
  | residStart (b : Buf)
  /-- The head of RESID's loop over partitions (R118). -/
  | partition (here : ResidPos)
  /-- The head of EscapedPartition's loop with raw width `w` (R119). -/
  | escaped (here : ResidPos) (w : Nat)
  /-- The head of RicePartition's loop with parameter `k` (R120). -/
  | rice (here : ResidPos) (k : Nat)
  /-- The unary loop of one Rice code, `q` zero bits counted (R120). -/
  | unary (here : ResidPos) (k q : Nat)
  /-- RECON before PcfgCheck (R126). -/
  | reconStart (b : Buf)
  /-- RECON's loop at index `i`, with its coefficients `c` and shift `sh` (R129). -/
  | recon (b : Buf) (i : Nat) (c : List Sample) (sh : Nat)
  /-- WSHL's loop at index `i` (R133). -/
  | wshl (b : Buf) (k i : Nat)
  /-- EMIT before its checks (R136). -/
  | emitStart (b : Buf) (ch : Nat)
  /-- EMIT's loop at index `i` (R136). -/
  | emit (b : Buf) (ch i : Nat)
  /-- DECOR before its check (R139). -/
  | decorStart
  /-- DECOR's pass 1 at index `i` (R139). -/
  | decorLeft (i : Nat)
  /-- DECOR's pass 2 at index `i` (R139). -/
  | decorRight (i : Nat)
  /-- FEND before its first read (R142). -/
  | fendStart
  /-- A command that is about to raise an error of the issue checks (R93), with its OP. -/
  | raising (op : BitVec 4) (e : RdbError)
deriving DecidableEq, Repr

/-- The stored flags of STATUS (R20); BUSY, STATE, ERR and WAITIN are not stored there. -/
structure Flags where
  done : Bool
  eos : Bool
  rej : Bool
deriving DecidableEq, Repr

/-- CTRL's interrupt enables (R25). -/
structure Ctrl where
  ieDone : Bool
  ieErr : Bool
  ieEos : Bool
deriving DecidableEq, Repr

/-- The error latch: ERRCODE.CODE, OP and CH (R27), ERRPOS (R28), ERRIDX (R29). -/
structure ErrorLatch where
  code : BitVec 8
  op : BitVec 4
  ch : BitVec 3
  pos : Word
  idx : Word
deriving DecidableEq, Repr

/-- The frame configuration: BLKSIZE (R32), FMT.CHASGN and FMT.DEPTH (R33), OUTOFF (R34), OUTLEN (R35),
OUTCH (R36). -/
structure FrameConfig where
  blksize : BitVec 17
  chasgn : BitVec 4
  depth : BitVec 6
  outoff : Word
  outlen : Word
  outch : BitVec 4
deriving DecidableEq, Repr

/-- PCFG (R37). -/
structure PredictorConfig where
  kind : PredictorKind
  order : BitVec 6
  shift : BitVec 5
deriving DecidableEq, Repr

/-- SADDR (R38). -/
structure ScratchAddress where
  idx : BitVec 16
  sel : Buf
deriving DecidableEq, Repr

/-- The byte source, outside the block (R51, R102): the bytes it will answer at once, in order, and whether it
answers EOS after them. With no byte left and `ended` false, a request stays unanswered. -/
structure ByteSource where
  bytes : List Byte
  ended : Bool
deriving DecidableEq, Repr

/-- The bit-input front end: BUF and BUFLEFT (R48), BITPOS (R41), the running CRCs (R40), and the byte source it
requests bytes from. -/
structure BitInput where
  buf : Byte
  bufLeft : Nat
  bitPos : BitVec 64
  crc16 : BitVec 16
  crc8 : BitVec 8
  source : ByteSource
deriving DecidableEq, Repr

/-- What the world outside the block can do to it, one event at a time (R8, R54, R102, R166, R174). -/
inductive Event where
  /-- HostWrite(off, v) (R54). -/
  | write (off : BitVec 12) (v : Word)
  /-- HostRead(off) (R54). -/
  | read (off : BitVec 12)
  /-- A host access of a width other than 32 bits (R54). -/
  | narrow (off : BitVec 12)
  /-- The hard reset input (R166). -/
  | hardReset
  /-- The byte source has one more byte to deliver (R102). -/
  | sourceByte (b : Byte)
  /-- The byte source has reached its end of stream (R102). -/
  | sourceEnd
  /-- The platform connects or repositions the byte source (R168, R169). -/
  | reposition (source : ByteSource)
  /-- The host, or another agent, writes an entry of the caller's buffer (R174). -/
  | bufferWrite (ch : BitVec 3) (idx : Word) (v : Word)
  /-- The host, or another agent, reads an entry of the caller's buffer (R174). -/
  | bufferRead (ch : BitVec 3) (idx : Word)
deriving DecidableEq, Repr

/-- Why the machine stops. Both are verdicts the spec requires of a model, not RDB errors (R45, R46); the hardware
goes on, so each is safe: the model stops where the hardware continues with a value nobody may rely on. -/
inductive Fault where
  /-- RECON, WSHL, EMIT, DECOR or a host read of SDATA_LO reads scratch entry `i` of buffer `b` while its valid tag is
  clear (R45, R59). Assumption 3 (DEDUCED, safe). -/
  | unwrittenScratch (b : Buf) (i : Nat)
  /-- RECON with KIND = 1 reads COEF[j] while its valid tag is clear (R46). Assumption 4 (DEDUCED, safe). -/
  | unwrittenCoef (j : Nat)
deriving DecidableEq, Repr

/-- What the machine does not execute. -/
inductive Refusal where
  /-- Raised only by an arm of `exec` whose instruction has no meaning; no arm is one. Safe. -/
  | notModelled (mnemonic : String)
  /-- A host access of a width other than 32 bits or at an offset that is not a multiple of 4: "A model refuses such an
  access" (R54). Raised by the host-access operations, never by a command. Assumption 15 (DEDUCED, safe). -/
  | busError (off : BitVec 12)
deriving DecidableEq, Repr

/-- The machine's state. -/
structure State where
  /-- STATE (R18). -/
  mode : BlockState
  /-- The command in progress; BUSY is 1 exactly when there is one (R19). Assumption 20 (DESIGN CHOICE,
  safe). -/
  task : Option Task
  flags : Flags
  ctrl : Ctrl
  err : ErrorLatch
  /-- RDATA (R31). -/
  rdata : Word
  frame : FrameConfig
  pcfg : PredictorConfig
  /-- COEF0 to COEF31 (R43). -/
  coef : Vector Word 32
  /-- The valid tags CV (R46). -/
  coefTag : Vector Bool 32
  saddr : ScratchAddress
  /-- The write latch of SDATA_HI (R39). -/
  whi : Word
  /-- The read latch of SDATA_LO (R39). -/
  rhi : Word
  input : BitInput
  /-- FSBIT (R49). -/
  fsbit : BitVec 64
  /-- FSIZE (R42). -/
  fsize : Word
  /-- Scratch buffer S0 with its valid tags: an entry is listed exactly when its tag is set (R44, R45).
  Assumption 21 (DESIGN CHOICE, safe). -/
  scratch0 : Memory 64
  /-- Scratch buffer S1 with its valid tags (R44, R45). -/
  scratch1 : Memory 64
  /-- The caller's sample buffer, outside the block: the entries written so far, by `outKey` (R51). -/
  out : Memory 32
  /-- What the outside world does next, first event first. Assumption 1 (DESIGN CHOICE, safe). -/
  events : List Event
  /-- Where the sequencer pauses for the outside world: how many sequencer steps each of the next machine steps takes;
  empty: the sequencer runs until it stops by itself. Assumption 2 (DESIGN CHOICE, safe). -/
  pace : List Nat
  /-- The data the last host read returned. Assumption 7 (DESIGN CHOICE, unsafe in form: nothing rests on it). -/
  hostData : Word
  /-- How many free values have been drawn. Assumption 5 (DESIGN CHOICE, safe). -/
  draws : Nat
deriving DecidableEq, Repr

/-- The state right after reset (R52), with nothing connected to the block: a silent byte source, a caller's buffer
nothing has written, no event (Assumption 6, DESIGN CHOICE, unsafe). BUF, which R52 leaves unspecified, is 0 (Assumption 8, DESIGN CHOICE,
unsafe in form: it is never read). -/
def State.reset : State where
  mode := .idle
  task := none
  flags := { done := false, eos := false, rej := false }
  ctrl := { ieDone := false, ieErr := false, ieEos := false }
  err := { code := 0, op := 0, ch := 0, pos := 0, idx := 0xFFFFFFFF }
  rdata := 0
  frame := { blksize := 0, chasgn := 0, depth := 0, outoff := 0, outlen := 0, outch := 0 }
  pcfg := { kind := .fixed, order := 0, shift := 0 }
  coef := Vector.replicate 32 0
  coefTag := Vector.replicate 32 false
  saddr := { idx := 0, sel := .s0 }
  whi := 0
  rhi := 0
  input :=
    { buf := 0, bufLeft := 0, bitPos := 0, crc16 := 0, crc8 := 0, source := { bytes := [], ended := false } }
  fsbit := 0
  fsize := 0
  scratch0 := []
  scratch1 := []
  out := []
  events := []
  pace := []
  hostData := 0
  draws := 0

end Sys2Proof.Machine
end

