-- ==== Sys2Proof/Machine/Ops.lean ====
section
/-! DEFINITION. The named operations over the state: the scratch and output spaces, the bit-input front end and its
running CRCs, completion, rejection, error entry (the block's only exception) and the ways out of an error state
(R155: FSTART and reset). -/

namespace Sys2Proof.Machine

/-! ### Scratch and output spaces -/

/-- The canonical form: keys strictly rising. -/
def Memory.wf {w : Nat} : Memory w → Bool
  | [] => true
  | [_] => true
  | (k, _) :: (k', v') :: rest => decide (k < k') && Memory.wf ((k', v') :: rest)

/-- The entry with key `k`, or `none` where nothing has been written. -/
def Memory.read {w : Nat} : Memory w → Nat → Option (BitVec w)
  | [], _ => none
  | (k', v) :: rest, k => if k = k' then some v else Memory.read rest k

/-- Write `v` at key `k`, keeping the canonical form. -/
def Memory.write {w : Nat} : Memory w → Nat → BitVec w → Memory w
  | [], k, v => [(k, v)]
  | (k', v') :: rest, k, v =>
    if k < k' then (k, v) :: (k', v') :: rest
    else if k = k' then (k, v) :: rest
    else (k', v') :: Memory.write rest k v

/-- Scratch buffer `b` (R44). -/
def State.scratch (s : State) : Buf → Memory 64
  | .s0 => s.scratch0
  | .s1 => s.scratch1

/-- `S[b][i]`, or `none` where the valid tag is clear (R45). -/
def State.readScratch (s : State) (b : Buf) (i : Nat) : Option Sample :=
  (s.scratch b).read i

/-- `S[b][i] <- v ; SV[b][i] <- 1` (R44, R45). -/
def State.writeScratch (s : State) (b : Buf) (i : Nat) (v : Sample) : State :=
  match b with
  | .s0 => { s with scratch0 := s.scratch0.write i v }
  | .s1 => { s with scratch1 := s.scratch1.write i v }

/-- The key of output entry `OUT[ch][idx]`; `idx` is below 2^32 (R51). Assumption 9 (DEDUCED, unsafe where a platform
gives two entries one address). -/
def outKey (ch idx : Nat) : Nat := ch * 4294967296 + idx

/-- `OUT[ch][idx]`, or `none` where nothing has been written (R51). -/
def State.readOut (s : State) (ch idx : Nat) : Option Word :=
  s.out.read (outKey ch idx)

/-- `OutWrite(ch, idx, v)` (R65). -/
def State.outWrite (s : State) (ch idx : Nat) (v : Word) : State :=
  { s with out := s.out.write (outKey ch idx) v }

/-! ### Bit input and the running CRCs -/

/-- One message bit into the CRC-16 (R107). -/
def crc16Update (crc : BitVec 16) (bit : Bool) : BitVec 16 :=
  if bit ^^ crc.getLsbD 15 then (crc <<< 1) ^^^ Config.crc16Poly else crc <<< 1

/-- One message bit into the CRC-8 (R107). -/
def crc8Update (crc : BitVec 8) (bit : Bool) : BitVec 8 :=
  if bit ^^ crc.getLsbD 7 then (crc <<< 1) ^^^ Config.crc8Poly else crc <<< 1

/-- What `ReadBit` comes to (R103): a bit and the front end after it, the end of stream, or a byte request that has no
answer yet (R102). -/
inductive BitAnswer where
  | bit (v : Bool) (input : BitInput)
  | endOfStream
  | wait
deriving DecidableEq, Repr

/-- The next unconsumed bit of BUF, most significant first. -/
def BitInput.nextBit (p : BitInput) : Bool := p.buf.getLsbD (p.bufLeft - 1)

/-- Consume that bit: BUFLEFT, BITPOS and both CRCs advance (R103). -/
def BitInput.consume (p : BitInput) : BitInput :=
  { p with
    bufLeft := p.bufLeft - 1
    bitPos := p.bitPos + 1
    crc16 := crc16Update p.crc16 p.nextBit
    crc8 := crc8Update p.crc8 p.nextBit }

/-- `ReadBit()` (R103): a byte is requested only when BUFLEFT = 0, and never ahead of need (R102). -/
def BitInput.readBit (p : BitInput) : BitAnswer :=
  if p.bufLeft ≠ 0 then .bit p.nextBit p.consume
  else
    match p.source.bytes with
    | byte :: rest =>
      let filled := { p with buf := byte, bufLeft := 8, source := { p.source with bytes := rest } }
      .bit filled.nextBit filled.consume
    | [] => if p.source.ended then .endOfStream else .wait

/-- FSTART's alignment: discard the rest of a partial byte, unchecked, with no CRC update (R97). -/
def BitInput.align (p : BitInput) : BitInput :=
  { p with bitPos := p.bitPos + BitVec.ofNat 64 p.bufLeft, bufLeft := 0 }

/-! ### Completion and rejection -/

/-- BUSY (R19). -/
def State.busy (s : State) : Bool := s.task.isSome

/-- A command performed to its end: DONE is set, BUSY falls (R94). Both happen in one piece, with the command's last
sequencer step, so no host access finds DONE = 1 (or the IRQ it raises) with BUSY = 1: Assumption 23 (DESIGN CHOICE,
unsafe). -/
def State.complete (s : State) : State :=
  { s with flags := { s.flags with done := true }, task := none }

/-- A rejected write: STATUS.REJ is set and nothing else happens (R56, R58, R154). -/
def State.reject (s : State) : State :=
  { s with flags := { s.flags with rej := true } }

/-! ### Error entry and the ways out of an error state -/

/-- ERRCODE.CODE of an error (R148). -/
def RdbError.code : RdbError → BitVec 8
  | .reservedField => 0x01
  | .indivisiblePartitions => 0x02
  | .invalidLpcShift => 0x03
  | .invalidPadding => 0x04
  | .crc16Mismatch => 0x05
  | .frameTooLarge => 0x06
  | .invalidPartitionOrder => 0x07
  | .residualOverflow _ => 0x08
  | .unexpectedEndOfStream _ => 0x09
  | .argumentError => 0x40
  | .bitDepthOverflow _ _ => 0x80
  | .invariantViolation => 0x81

/-- ERRCODE.CH of an error (R148): the output channel of a BitDepthOverflow, 0 for every other error. -/
def RdbError.channel : RdbError → BitVec 3
  | .reservedField => 0
  | .indivisiblePartitions => 0
  | .invalidLpcShift => 0
  | .invalidPadding => 0
  | .crc16Mismatch => 0
  | .frameTooLarge => 0
  | .invalidPartitionOrder => 0
  | .residualOverflow _ => 0
  | .unexpectedEndOfStream _ => 0
  | .argumentError => 0
  | .bitDepthOverflow ch _ => BitVec.ofNat 3 ch
  | .invariantViolation => 0

/-- ERRIDX when the error is not tied to a sample (R29). -/
def noIndex : Word := 0xFFFFFFFF

/-- ERRIDX of an error (R148). -/
def RdbError.index : RdbError → Word
  | .reservedField => noIndex
  | .indivisiblePartitions => noIndex
  | .invalidLpcShift => noIndex
  | .invalidPadding => noIndex
  | .crc16Mismatch => noIndex
  | .frameTooLarge => noIndex
  | .invalidPartitionOrder => noIndex
  | .residualOverflow i => BitVec.ofNat 32 i
  | .unexpectedEndOfStream (some i) => BitVec.ofNat 32 i
  | .unexpectedEndOfStream none => noIndex
  | .argumentError => noIndex
  | .bitDepthOverflow _ i => BitVec.ofNat 32 i
  | .invariantViolation => noIndex

/-- The state an error moves the block to: FATAL for an InternalError (code 0x80 and above), else ERROR (R147,
R151). -/
def RdbError.target (e : RdbError) : BlockState :=
  if 0x80 ≤ e.code.toNat then .fatal else .error

/-- Error entry (R151): the one way an error is taken. `op` is the OP field of the command that raised it. No other
part of the state changes; STATUS.DONE in particular keeps its value. -/
def State.errorEntry (s : State) (op : BitVec 4) (e : RdbError) : State :=
  { s with
    err :=
      { code := e.code
        op := op
        ch := e.channel
        pos := (s.input.bitPos - s.fsbit).setWidth 32
        idx := e.index }
    mode := e.target
    task := none }

/-- FSTART's effect (R97), which is also the way out of ERROR (R155): align, clear both CRCs, mark the frame's start,
clear the error latch and every valid tag, enter HDR. -/
def State.openFrame (s : State) : State :=
  let aligned := s.input.align
  { s with
    input := { aligned with crc16 := 0, crc8 := 0 }
    fsbit := aligned.bitPos
    err := { code := 0, op := 0, ch := 0, pos := 0, idx := noIndex }
    scratch0 := []
    scratch1 := []
    coefTag := Vector.replicate 32 false
    mode := .hdr }

/-- Hard reset and soft reset (R166, R167), the way out of FATAL (R155): every piece of block state takes its reset
value. What stands outside the block stays as it is: the byte source and the caller's buffer (R168), and the model's
record of the environment. -/
def State.resetBlock (s : State) : State :=
  { State.reset with
    input := { State.reset.input with source := s.input.source }
    out := s.out
    events := s.events
    pace := s.pace
    hostData := s.hostData
    draws := s.draws }

end Sys2Proof.Machine
end

