-- ==== Sys2Proof/Machine/Operands.lean ====
section
/-! DEFINITION. How operands are formed and checked (R78): sign extension and zigzag, the frame configuration as
numbers, the predictor configuration and its coefficients, the geometry of a residual section and of the footer. -/

namespace Sys2Proof.Machine

/-! ### Stream operands -/

/-- `sext_n(v)` for an n-bit value v; `sext_0(v)` is 0 (R11, R105). -/
def sext (n v : Nat) : Int :=
  if n = 0 then 0 else if v.testBit (n - 1) then (v : Int) - 2 ^ n else v

/-- The signed residual of an unsigned Rice value: `(v >> 1) XOR −(v & 1)` (R86). -/
def zigzag (v : Nat) : Sample :=
  let x := BitVec.ofNat 64 v
  (x >>> 1) ^^^ -(x &&& 1)

/-! ### Frame configuration -/

/-- N, the block size (R32). -/
def FrameConfig.blockSize (f : FrameConfig) : Nat := f.blksize.toNat

/-- The number of channels of the frame (R99). -/
def FrameConfig.channels (f : FrameConfig) : Nat :=
  if f.chasgn.toNat ≤ 7 then f.chasgn.toNat + 1 else 2

/-- FCFG's checks in the order of R98: the first that fails, if any. All arithmetic is exact. -/
def FrameConfig.firstError (f : FrameConfig) : Option RdbError :=
  if f.blockSize < 1 ∨ Config.maxBlock < f.blockSize then some .argumentError
  else if 11 ≤ f.chasgn.toNat then some .reservedField
  else if f.depth.toNat < 1 ∨ 32 < f.depth.toNat then some .argumentError
  else if f.outch.toNat < 1 ∨ 8 < f.outch.toNat ∨ f.outch.toNat < f.channels then some .argumentError
  else if f.outlen.toNat < f.outoff.toNat + f.blockSize then some .argumentError
  else none

/-- Whether a sample lies in the range of the nominal depth D: −2^(D−1) ≤ v ≤ 2^(D−1) − 1 (R134). -/
def FrameConfig.inRange (f : FrameConfig) (v : Sample) : Bool :=
  decide (-(2 ^ (f.depth.toNat - 1) : Int) ≤ v.toInt ∧ v.toInt ≤ 2 ^ (f.depth.toNat - 1) - 1)

/-! ### Predictor configuration -/

/-- PcfgCheck (R125). -/
def PredictorConfig.legal (p : PredictorConfig) : Bool :=
  match p.kind with
  | .fixed => decide (p.order.toNat ≤ 4)
  | .lpc => decide (1 ≤ p.order.toNat ∧ p.order.toNat ≤ 32)

/-- Whether SHIFT makes RESID and RECON raise InvalidLpcShift: KIND = 1 and SHIFT[4] = 1 (R114, R128). -/
def PredictorConfig.negativeShift (p : PredictorConfig) : Bool :=
  match p.kind with
  | .fixed => false
  | .lpc => p.shift.getLsbD 4

/-- The shift RECON uses: SHIFT[3:0] for LPC, 0 for a fixed predictor (R126, R127). -/
def PredictorConfig.shiftAmount (p : PredictorConfig) : Nat :=
  match p.kind with
  | .fixed => 0
  | .lpc => (p.shift.extractLsb' 0 4).toNat

/-- The fixed-predictor table (R47): the coefficients of an order, j = 0 first. Orders above 4 never pass PcfgCheck. -/
def fixedCoefs : Nat → List Sample
  | 1 => [1]
  | 2 => [2, -1]
  | 3 => [3, -3, 1]
  | 4 => [4, -6, 4, -1]
  | _ => []

/-- The value of COEF[j] (R43). -/
def State.coefAt (s : State) (j : Nat) : Word := s.coef[j]?.getD 0

/-- The valid tag CV[j] (R46). -/
def State.coefValid (s : State) (j : Nat) : Bool := s.coefTag[j]?.getD false

/-- `sext_32(COEF[j])` for `n` coefficients from `j` on, or the model fault at the first whose tag is clear (R46). -/
def State.lpcCoefs (s : State) : (n j : Nat) → Except Fault (List Sample)
  | 0, _ => .ok []
  | n + 1, j =>
    if s.coefValid j then
      match s.lpcCoefs n (j + 1) with
      | .ok cs => .ok ((s.coefAt j).signExtend 64 :: cs)
      | .error f => .error f
    else .error (.unwrittenCoef j)

/-- RECON's coefficients c[0], …, c[ord − 1] (R126). -/
def State.predictorCoefs (s : State) : Except Fault (List Sample) :=
  match s.pcfg.kind with
  | .fixed => .ok (fixedCoefs s.pcfg.order.toNat)
  | .lpc => s.lpcCoefs s.pcfg.order.toNat 0

/-! ### Residual section -/

/-- L, the number of indices a partition covers: N >> po (R116, R118). -/
def State.partitionLength (s : State) (order : Nat) : Nat := s.frame.blockSize / 2 ^ order

/-- The index at which the current partition ends: (p + 1) · L (R113). -/
def State.partitionEnd (s : State) (p : ResidPos) : Nat := (p.part + 1) * s.partitionLength p.order

/-- The width of a partition's parameter field: 4 bits for method 0, 5 bits for method 1 (R84). -/
def parameterWidth (wide : Bool) : Nat := if wide then 5 else 4

/-- The escape value: the parameter field all ones (R84). -/
def escapeValue (wide : Bool) : Nat := if wide then 31 else 15

/-- The bound on the unary quotient of a Rice code with parameter k: 2^(32−k) (R121). -/
def quotientBound (k : Nat) : Nat := 2 ^ (32 - k)

/-! ### Footer -/

/-- The number of padding bits up to the next byte boundary (R143). -/
def BitInput.padding (p : BitInput) : Nat := (8 - p.bitPos.toNat % 8) % 8

/-- The bytes consumed since the frame's FSTART (R145). -/
def State.frameBytes (s : State) : Nat := (s.input.bitPos - s.fsbit).toNat / 8

end Sys2Proof.Machine
end

