-- ==== Sys2Proof/Machine/Flags.lean ====
section
/-! DEFINITION. The flags that are computed and not stored, the register words that gather flags, the write-one-to-clear
rule and the interrupt output. -/

namespace Sys2Proof.Machine

/-- The number of a block state, as STATUS[3:1] shows it (R18). -/
def BlockState.number : BlockState → BitVec 3
  | .idle => 0
  | .hdr => 1
  | .body => 2
  | .error => 3
  | .fatal => 4

/-- ERR: STATE is ERROR or FATAL (R20). -/
def State.errFlag (s : State) : Bool :=
  match s.mode with
  | .idle => false
  | .hdr => false
  | .body => false
  | .error => true
  | .fatal => true

/-- Whether the next thing a command does is `ReadBit`. -/
def Task.needsBit : Task → Bool
  | .reading left _ _ => decide (left ≠ 0)
  | .unary _ _ _ => true
  | .nop => false
  | .fstart => false
  | .fcfg => false
  | .getbStart _ _ => false
  | .residStart _ => false
  | .partition _ => false
  | .escaped _ _ => false
  | .rice _ _ => false
  | .reconStart _ => false
  | .recon _ _ _ _ => false
  | .wshl _ _ _ => false
  | .emitStart _ _ => false
  | .emit _ _ _ => false
  | .decorStart => false
  | .decorLeft _ => false
  | .decorRight _ => false
  | .fendStart => false
  | .raising _ _ => false

/-- Whether `ReadBit` would now wait for a byte (R102). -/
def BitInput.starved (p : BitInput) : Bool :=
  p.bufLeft == 0 && p.source.bytes.isEmpty && !p.source.ended

/-- WAITIN: BUSY = 1 and the front end is waiting for the byte source (R20, R102). Assumption 17 (DEDUCED, safe). -/
def State.waitIn (s : State) : Bool :=
  match s.task with
  | none => false
  | some t => t.needsBit && s.input.starved

/-- Register STATUS (R26). -/
def State.statusWord (s : State) : Word :=
  (0 : BitVec 23) ++ BitVec.ofBool s.waitIn ++ BitVec.ofBool s.flags.rej ++ BitVec.ofBool s.flags.eos ++
    BitVec.ofBool s.errFlag ++ BitVec.ofBool s.flags.done ++ s.mode.number ++ BitVec.ofBool s.busy

/-- The effect of a host write of `v` to STATUS on the stored flags: each of DONE, EOS, REJ whose bit is 1 in `v` is
cleared (R26). -/
def Flags.clearedBy (f : Flags) (v : Word) : Flags :=
  { done := f.done && !v.getLsbD 4
    eos := f.eos && !v.getLsbD 6
    rej := f.rej && !v.getLsbD 7 }

/-- Register CTRL; SRST reads 0 (R25). -/
def Ctrl.word (c : Ctrl) : Word :=
  (0 : BitVec 29) ++ BitVec.ofBool c.ieEos ++ BitVec.ofBool c.ieErr ++ BitVec.ofBool c.ieDone

/-- CTRL after a host write of `v` (R25). -/
def Ctrl.ofWord (v : Word) : Ctrl :=
  { ieDone := v.getLsbD 0, ieErr := v.getLsbD 1, ieEos := v.getLsbD 2 }

/-- Register ERRCODE (R27). -/
def ErrorLatch.word (e : ErrorLatch) : Word := (0 : BitVec 17) ++ e.ch ++ e.op ++ e.code

/-- The interrupt output, a level (R157). -/
def State.irq (s : State) : Bool :=
  (s.ctrl.ieDone && s.flags.done) || (s.ctrl.ieErr && s.errFlag) || (s.ctrl.ieEos && s.flags.eos)

end Sys2Proof.Machine
end

