-- ==== Sys2Proof/Machine/Advance.lean ====
section
/-! DEFINITION. What one sequencer step of a command can come to, and the two ways a command uses the bit input:
`ReadBits` one bit at a time (R104), and the end of stream (R110, R111). The command families use both. -/

namespace Sys2Proof.Machine

/-- One sequencer step of a command in progress. -/
inductive Advance where
  /-- The command goes on at another point of its pseudocode. -/
  | go (t : Task) (s : State)
  /-- The command has performed its rule to the end (R94). -/
  | done (s : State)
  /-- `raise` (R150). -/
  | raise (e : RdbError) (s : State)
  /-- A byte request has no answer yet (R102). -/
  | wait
  /-- A model fault (R45, R46). -/
  | fault (f : Fault)
deriving DecidableEq, Repr

/-- ERRIDX of an end of stream met while reading for a purpose: the residual's index inside a residual, no index
elsewhere (R122, R148). -/
def Purpose.endOfStreamIndex : Purpose → Option Nat
  | .getb _ _ => none
  | .method _ => none
  | .partitionOrder _ _ => none
  | .parameter _ => none
  | .rawWidth _ => none
  | .rawResidual here _ => some here.idx
  | .remainder here _ _ => some here.idx
  | .padding => none
  | .footerCrc _ => none

/-- Whether the stream stands at a frame boundary: STATE = IDLE, or STATE = HDR and BITPOS = FSBIT (R110). -/
def State.atFrameBoundary (s : State) : Bool :=
  match s.mode with
  | .idle => true
  | .hdr => decide (s.input.bitPos = s.fsbit)
  | .body => false
  | .error => false
  | .fatal => false

/-- The end of stream at a frame boundary: EOS is set, STATE becomes IDLE, nothing else changes (R110). -/
def State.noMoreFrames (s : State) : State :=
  { s with flags := { s.flags with eos := true }, mode := .idle }

/-- An end of stream with `left` bits of a `ReadBits` unread: at the first bit of a GETB at a frame boundary the GETB
completes (R110); every other end of stream is UnexpectedEndOfStream (R111). -/
def State.endOfStream (s : State) (left : Nat) (use : Purpose) : Advance :=
  match use with
  | .getb _ n =>
    if left = n ∧ s.atFrameBoundary then .done s.noMoreFrames
    else .raise (.unexpectedEndOfStream none) s
  | _ => .raise (.unexpectedEndOfStream use.endOfStreamIndex) s

end Sys2Proof.Machine
end

