-- ==== Sys2Proof/Machine/BitField.lean ====
section
/-! DEFINITION. The sequencer steps of GETB and GETBS (spec/41_bit_input.md, R112). -/

namespace Sys2Proof.Machine

/-- GETB's argument check and the case n = 0 (R112). -/
def advanceGetbStart (signed : Bool) (n : Nat) (s : State) : Advance :=
  if 32 < n then .raise .argumentError s
  else if n = 0 then .done { s with rdata := 0 }
  else .go (.reading n 0 (.getb signed n)) s

/-- RDATA from the field's value: sign-extended or zero-extended to 32 bits (R31, R112). -/
def getbResult (signed : Bool) (n v : Nat) : Word :=
  if signed then BitVec.ofInt 32 (sext n v) else BitVec.ofNat 32 v

/-- The field of a GETB has been read. -/
def finishGetb (signed : Bool) (n v : Nat) (s : State) : Advance :=
  .done { s with rdata := getbResult signed n v }

end Sys2Proof.Machine
end

