-- ==== Sys2Proof/Machine/Footer.lean ====
section
/-! DEFINITION. The sequencer steps of FEND (spec/45_frame_footer.md). -/

namespace Sys2Proof.Machine

/-- Read the padding up to the byte boundary (R142, R143). -/
def advanceFendStart (s : State) : Advance :=
  .go (.reading s.input.padding 0 .padding) s

/-- The padding has been read: it must be 0. The CRC-16 to compare is the one after the padding (R143, R144). -/
def finishPadding (v : Nat) (s : State) : Advance :=
  if v ≠ 0 then .raise .invalidPadding s
  else .go (.reading 16 0 (.footerCrc s.input.crc16)) s

/-- The CRC field has been read: compare, then the frame's size, then FSIZE and IDLE (R142, R144, R145). -/
def finishFooterCrc (want : BitVec 16) (v : Nat) (s : State) : Advance :=
  if v ≠ want.toNat then .raise .crc16Mismatch s
  else if Config.frameSizeMax < s.frameBytes then .raise .frameTooLarge s
  else .done { s with fsize := BitVec.ofNat 32 s.frameBytes, mode := .idle }

end Sys2Proof.Machine
end

