-- ==== Sys2Proof/Machine/FrameControl.lean ====
section
/-! DEFINITION. The sequencer steps of NOP, FSTART and FCFG (spec/40_frame_control.md). -/

namespace Sys2Proof.Machine

/-- NOP does nothing (R96). -/
def advanceNop (s : State) : Advance := .done s

/-- FSTART opens a frame (R97). -/
def advanceFstart (s : State) : Advance := .done s.openFrame

/-- FCFG: the checks in order, then STATE = BODY (R98). -/
def advanceFcfg (s : State) : Advance :=
  match s.frame.firstError with
  | some e => .raise e s
  | none => .done { s with mode := .body }

end Sys2Proof.Machine
end

