-- ==== Sys2Proof/Machine/Predictor.lean ====
section
/-! DEFINITION. The sequencer steps of RECON and WSHL (spec/43_predictor.md). -/

namespace Sys2Proof.Machine

/-- RECON's checks, then its coefficients and shift (R126, R127, R128). -/
def advanceReconStart (b : Buf) (s : State) : Advance :=
  if ¬s.pcfg.legal then .raise .argumentError s
  else if s.pcfg.negativeShift then .raise .invalidLpcShift s
  else
    match s.predictorCoefs with
    | .ok c => .go (.recon b s.pcfg.order.toNat c s.pcfg.shiftAmount) s
    | .error f => .fault f

/-- The accumulator of R126 for the sample after index `i − 1`: `acc` plus S[b][i − 1] · c[0] + S[b][i − 2] · c[1] + …,
each step modulo 2^64 (R130), or the model fault of the first entry whose valid tag is clear. -/
def State.accumulate (s : State) (b : Buf) : List Sample → (i : Nat) → (acc : Sample) → Except Fault Sample
  | [], _, acc => .ok acc
  | c :: cs, i, acc =>
    match s.readScratch b (i - 1) with
    | some x => s.accumulate b cs (i - 1) (acc + x * c)
    | none => .error (.unwrittenScratch b (i - 1))

/-- RECON's loop at index i (R129); after the last index the valid tags of all coefficients are cleared (R132). -/
def advanceRecon (b : Buf) (i : Nat) (c : List Sample) (sh : Nat) (s : State) : Advance :=
  if i < s.frame.blockSize then
    match s.accumulate b c i 0 with
    | .error f => .fault f
    | .ok acc =>
      match s.readScratch b i with
      | none => .fault (.unwrittenScratch b i)
      | some r => .go (.recon b (i + 1) c sh) (s.writeScratch b i (r + acc.sshiftRight sh))
  else .done { s with coefTag := Vector.replicate 32 false }

/-- WSHL's loop at index i (R133). -/
def advanceWshl (b : Buf) (k i : Nat) (s : State) : Advance :=
  if i < s.frame.blockSize then
    match s.readScratch b i with
    | none => .fault (.unwrittenScratch b i)
    | some x => .go (.wshl b k (i + 1)) (s.writeScratch b i (x <<< k))
  else .done s

end Sys2Proof.Machine
end

