-- ==== Sys2Proof/Machine/Residual.lean ====
section
/-! DEFINITION. The sequencer steps of RESID (spec/42_residual.md). Each is one line of the pseudocode of R113, R119
or R120. -/

namespace Sys2Proof.Machine

/-- PcfgCheck, then the sign of the shift, before any stream bit (R114). -/
def advanceResidStart (b : Buf) (s : State) : Advance :=
  if ¬s.pcfg.legal then .raise .argumentError s
  else if s.pcfg.negativeShift then .raise .invalidLpcShift s
  else .go (.reading 2 0 (.method b)) s

/-- The coding method has been read (R115). -/
def finishMethod (b : Buf) (v : Nat) (s : State) : Advance :=
  if 2 ≤ v then .raise .reservedField s
  else .go (.reading 4 0 (.partitionOrder b (decide (v = 1)))) s

/-- The partition order has been read: N must divide evenly (R116) and partition 0 must not hold a negative count
(R117). -/
def finishPartitionOrder (b : Buf) (wide : Bool) (po : Nat) (s : State) : Advance :=
  if s.frame.blockSize % 2 ^ po ≠ 0 then .raise .indivisiblePartitions s
  else if s.partitionLength po < s.pcfg.order.toNat then .raise .invalidPartitionOrder s
  else .go (.partition { buf := b, wide := wide, order := po, part := 0, idx := s.pcfg.order.toNat }) s

/-- The loop over partitions: a partition begins with its parameter field, even when it holds no residual (R118). -/
def advancePartition (here : ResidPos) (s : State) : Advance :=
  if here.part < 2 ^ here.order then .go (.reading (parameterWidth here.wide) 0 (.parameter here)) s
  else .done s

/-- The parameter has been read: the escape value selects the raw form (R113). -/
def finishParameter (here : ResidPos) (k : Nat) (s : State) : Advance :=
  if k = escapeValue here.wide then .go (.reading 5 0 (.rawWidth here)) s
  else .go (.rice here k) s

/-- The raw width has been read (R119). -/
def finishRawWidth (here : ResidPos) (w : Nat) (s : State) : Advance :=
  .go (.escaped here w) s

/-- The position after the current partition: `idx <- end` and the next p (R113). -/
def State.nextPartition (s : State) (here : ResidPos) : ResidPos :=
  { here with part := here.part + 1, idx := s.partitionEnd here }

/-- EscapedPartition's loop (R119). -/
def advanceEscaped (here : ResidPos) (w : Nat) (s : State) : Advance :=
  if here.idx < s.partitionEnd here then .go (.reading w 0 (.rawResidual here w)) s
  else .go (.partition (s.nextPartition here)) s

/-- An escaped residual has been read: store it and go on with the next index (R119). -/
def finishRawResidual (here : ResidPos) (w v : Nat) (s : State) : Advance :=
  .go (.escaped { here with idx := here.idx + 1 } w)
    (s.writeScratch here.buf here.idx (BitVec.ofInt 64 (sext w v)))

/-- RicePartition's loop (R120). -/
def advanceRice (here : ResidPos) (k : Nat) (s : State) : Advance :=
  if here.idx < s.partitionEnd here then .go (.unary here k 0) s
  else .go (.partition (s.nextPartition here)) s

/-- One bit of the unary quotient (R120), with the bound of R121. -/
def advanceUnary (here : ResidPos) (k q : Nat) (s : State) : Advance :=
  match s.input.readBit with
  | .bit true p => .go (.reading k 0 (.remainder here k q)) { s with input := p }
  | .bit false p =>
    if q + 1 = quotientBound k then .raise (.residualOverflow here.idx) { s with input := p }
    else .go (.unary here k (q + 1)) { s with input := p }
  | .endOfStream => .raise (.unexpectedEndOfStream (some here.idx)) s
  | .wait => .wait

/-- The remainder of a Rice code has been read: v = (q << k) | r, store the zigzag-decoded residual (R120). -/
def finishRemainder (here : ResidPos) (k q r : Nat) (s : State) : Advance :=
  .go (.rice { here with idx := here.idx + 1 } k)
    (s.writeScratch here.buf here.idx (zigzag ((q <<< k) ||| r)))

end Sys2Proof.Machine
end

