-- ==== Sys2Proof/Machine/Stereo.lean ====
section
/-! DEFINITION. The sequencer steps of EMIT and DECOR (spec/44_stereo_output.md). -/

namespace Sys2Proof.Machine

/-- RangeCheck, then OutWrite of the low 32 bits at OUTOFF + i, then the next step (R134, R136, R139). -/
def State.emitSample (s : State) (ch i : Nat) (v : Sample) (next : Task) : Advance :=
  if s.frame.inRange v then .go next (s.outWrite ch (s.frame.outoff.toNat + i) (v.setWidth 32))
  else .raise (.bitDepthOverflow ch i) s

/-- EMIT's checks (R136). -/
def advanceEmitStart (b : Buf) (ch : Nat) (s : State) : Advance :=
  if 7 < s.frame.chasgn.toNat ∨ s.frame.chasgn.toNat < ch then .raise .invariantViolation s
  else .go (.emit b ch 0) s

/-- EMIT's loop at index i (R136). -/
def advanceEmit (b : Buf) (ch i : Nat) (s : State) : Advance :=
  if i < s.frame.blockSize then
    match s.readScratch b i with
    | none => .fault (.unwrittenScratch b i)
    | some v => s.emitSample ch i v (.emit b ch (i + 1))
  else .done s

/-- The left output of a reversal (R138). Modes below 8 have none; they never reach it (R139). -/
def decorrelateLeft (chasgn : BitVec 4) (a b : Sample) : Sample :=
  if chasgn = 8 then a
  else if chasgn = 9 then a + b
  else (((a <<< 1) ||| (b &&& 1)) + b).sshiftRight 1

/-- The right output of a reversal (R138). -/
def decorrelateRight (chasgn : BitVec 4) (a b : Sample) : Sample :=
  if chasgn = 8 then a - b
  else if chasgn = 9 then b
  else (((a <<< 1) ||| (b &&& 1)) - b).sshiftRight 1

/-- DECOR's check (R139). -/
def advanceDecorStart (s : State) : Advance :=
  if s.frame.chasgn.toNat < 8 then .raise .invariantViolation s
  else .go (.decorLeft 0) s

/-- Both inputs of index i, or the model fault of the first unwritten one (R137). -/
def State.stereoPair (s : State) (i : Nat) : Except Fault (Sample × Sample) :=
  match s.readScratch .s0 i with
  | none => .error (.unwrittenScratch .s0 i)
  | some a =>
    match s.readScratch .s1 i with
    | none => .error (.unwrittenScratch .s1 i)
    | some b => .ok (a, b)

/-- DECOR's pass 1 at index i: left to channel 0 (R139). -/
def advanceDecorLeft (i : Nat) (s : State) : Advance :=
  if i < s.frame.blockSize then
    match s.stereoPair i with
    | .error f => .fault f
    | .ok (a, b) => s.emitSample 0 i (decorrelateLeft s.frame.chasgn a b) (.decorLeft (i + 1))
  else .go (.decorRight 0) s

/-- DECOR's pass 2 at index i: right to channel 1 (R139). -/
def advanceDecorRight (i : Nat) (s : State) : Advance :=
  if i < s.frame.blockSize then
    match s.stereoPair i with
    | .error f => .fault f
    | .ok (a, b) => s.emitSample 1 i (decorrelateRight s.frame.chasgn a b) (.decorRight (i + 1))
  else .done s

end Sys2Proof.Machine
end

