-- ==== Sys2Proof/Machine/Sequencer.lean ====
section
/-! DEFINITION. The sequencer: the step of each task, running a command until it completes, raises an error, waits for
a byte or pauses for the outside world, and issuing a command (R93, R94, R77). -/

namespace Sys2Proof.Machine

/-- The value of a `ReadBits` is complete: the line of pseudocode that uses it. -/
def finishRead (use : Purpose) (v : Nat) (s : State) : Advance :=
  match use with
  | .getb signed n => finishGetb signed n v s
  | .method b => finishMethod b v s
  | .partitionOrder b wide => finishPartitionOrder b wide v s
  | .parameter here => finishParameter here v s
  | .rawWidth here => finishRawWidth here v s
  | .rawResidual here w => finishRawResidual here w v s
  | .remainder here k q => finishRemainder here k q v s
  | .padding => finishPadding v s
  | .footerCrc want => finishFooterCrc want v s

/-- One bit of a `ReadBits`: v <- (v << 1) | ReadBit() (R104). -/
def advanceReading (left acc : Nat) (use : Purpose) (s : State) : Advance :=
  match left with
  | 0 => finishRead use acc s
  | rest + 1 =>
    match s.input.readBit with
    | .bit v p => .go (.reading rest (2 * acc + v.toNat) use) { s with input := p }
    | .endOfStream => s.endOfStream (rest + 1) use
    | .wait => .wait

/-- One sequencer step of a command in progress. -/
def advance (t : Task) (s : State) : Advance :=
  match t with
  | .nop => advanceNop s
  | .fstart => advanceFstart s
  | .fcfg => advanceFcfg s
  | .getbStart signed n => advanceGetbStart signed n s
  | .reading left acc use => advanceReading left acc use s
  | .residStart b => advanceResidStart b s
  | .partition here => advancePartition here s
  | .escaped here w => advanceEscaped here w s
  | .rice here k => advanceRice here k s
  | .unary here k q => advanceUnary here k q s
  | .reconStart b => advanceReconStart b s
  | .recon b i c sh => advanceRecon b i c sh s
  | .wshl b k i => advanceWshl b k i s
  | .emitStart b ch => advanceEmitStart b ch s
  | .emit b ch i => advanceEmit b ch i s
  | .decorStart => advanceDecorStart s
  | .decorLeft i => advanceDecorLeft i s
  | .decorRight i => advanceDecorRight i s
  | .fendStart => advanceFendStart s
  | .raising _ e => .raise e s

/-- OP of the command that reads for a purpose (R75). -/
def Purpose.op : Purpose → BitVec 4
  | .getb _ _ => 0x3
  | .method _ => 0x4
  | .partitionOrder _ _ => 0x4
  | .parameter _ => 0x4
  | .rawWidth _ => 0x4
  | .rawResidual _ _ => 0x4
  | .remainder _ _ _ => 0x4
  | .padding => 0x9
  | .footerCrc _ => 0x9

/-- OP of the command in progress, which error entry latches (R27, R75). -/
def Task.op : Task → BitVec 4
  | .nop => 0x0
  | .fstart => 0x1
  | .fcfg => 0x2
  | .getbStart _ _ => 0x3
  | .reading _ _ use => use.op
  | .residStart _ => 0x4
  | .partition _ => 0x4
  | .escaped _ _ => 0x4
  | .rice _ _ => 0x4
  | .unary _ _ _ => 0x4
  | .reconStart _ => 0x5
  | .recon _ _ _ _ => 0x5
  | .wshl _ _ _ => 0x6
  | .emitStart _ _ => 0x7
  | .emit _ _ _ => 0x7
  | .decorStart => 0x8
  | .decorLeft _ => 0x8
  | .decorRight _ => 0x8
  | .fendStart => 0x9
  | .raising op _ => op

/-- Run a command for at most `n` sequencer steps. It ends in completion (R94), in error entry (R151), in a command
still in progress (it waits for a byte, R102, or the outside world has its turn), or in a model fault. -/
def drive : Nat → Task → State → Host.Outcome State Fault Refusal
  | 0, t, s => .next { s with task := some t }
  | n + 1, t, s =>
    match advance t s with
    | .go t' s' => drive n t' s'
    | .done s' => .next s'.complete
    | .raise e s' => .next (s'.errorEntry t.op e)
    | .wait => .next { s with task := some t }
    | .fault f => .fault f

/-- The number of sequencer steps before the outside world has its next turn. Assumption 2 (DESIGN CHOICE,
safe). -/
def State.burst (s : State) : Nat :=
  match s.pace with
  | [] => Config.maxBurst
  | n :: _ => n

/-- Run a command from a task, for the current burst. -/
def State.run (s : State) (t : Task) : Host.Outcome State Fault Refusal :=
  drive s.burst t { s with pace := s.pace.tail }

/-- Let the command in progress, if any, go on. -/
def State.resume (s : State) : Host.Outcome State Fault Refusal :=
  match s.task with
  | none => .next s
  | some t => s.run t

/-- What R77 says of a command in a block state. -/
inductive Legality where
  /-- The command executes. -/
  | ok
  /-- InternalError(InvariantViolation), without other effect. -/
  | violation
  /-- The word is rejected: STATUS.REJ is set, no other effect. -/
  | rejected
deriving DecidableEq, Repr

/-- R77's row for NOP, GETB and GETBS. -/
def legalWhileRunning : BlockState → Legality
  | .idle => .ok
  | .hdr => .ok
  | .body => .ok
  | .error => .rejected
  | .fatal => .rejected

/-- R77's row for FSTART. -/
def legalFstart : BlockState → Legality
  | .idle => .ok
  | .hdr => .ok
  | .body => .ok
  | .error => .ok
  | .fatal => .rejected

/-- R77's row for FCFG. -/
def legalFcfg : BlockState → Legality
  | .idle => .violation
  | .hdr => .ok
  | .body => .violation
  | .error => .rejected
  | .fatal => .rejected

/-- R77's row for RESID, RECON, WSHL, EMIT, DECOR and FEND. -/
def legalInBody : BlockState → Legality
  | .idle => .violation
  | .hdr => .violation
  | .body => .ok
  | .error => .rejected
  | .fatal => .rejected

/-- Issue a command (R93): rejected while BUSY or as R77 says; otherwise BUSY is 1 and the command begins at `start`,
or raises InvariantViolation where it is not legal. -/
def State.issue (s : State) (legal : BlockState → Legality) (op : BitVec 4) (start : Task) :
    Host.Outcome State Fault Refusal :=
  if s.busy then .next s.reject
  else
    match legal s.mode with
    | .ok => s.run start
    | .violation => s.run (.raising op .invariantViolation)
    | .rejected => .next s.reject

/-- Issue an illegal word with OP field `op`: ArgumentError, unless the word is rejected first (R76, R77, R93). -/
def State.issueIllegal (s : State) (op : BitVec 4) : Host.Outcome State Fault Refusal :=
  s.issue legalWhileRunning op (.raising op .argumentError)

end Sys2Proof.Machine
end

