-- ==== Sys2Proof/Machine/Commands.lean ====
section
/-! DEFINITION. The meaning of each command: what a host write of its word to CMD does (R93). Each is the issue of the
command at the first step of its rule; the steps are in FrameControl, BitField, Residual, Predictor, Stereo and
Footer. -/

namespace Sys2Proof.Machine

/-- NOP (R96). -/
def execNop (s : State) : Host.Outcome State Fault Refusal :=
  s.issue legalWhileRunning 0x0 .nop

/-- FSTART (R97). -/
def execFstart (s : State) : Host.Outcome State Fault Refusal :=
  s.issue legalFstart 0x1 .fstart

/-- FCFG (R98). -/
def execFcfg (s : State) : Host.Outcome State Fault Refusal :=
  s.issue legalFcfg 0x2 .fcfg

/-- GETB n (R112). -/
def execGetb (n : Nat) (s : State) : Host.Outcome State Fault Refusal :=
  s.issue legalWhileRunning 0x3 (.getbStart false n)

/-- GETBS n (R112). -/
def execGetbs (n : Nat) (s : State) : Host.Outcome State Fault Refusal :=
  s.issue legalWhileRunning 0x3 (.getbStart true n)

/-- RESID s<b> (R113). -/
def execResid (b : Buf) (s : State) : Host.Outcome State Fault Refusal :=
  s.issue legalInBody 0x4 (.residStart b)

/-- RECON s<b> (R126). -/
def execRecon (b : Buf) (s : State) : Host.Outcome State Fault Refusal :=
  s.issue legalInBody 0x5 (.reconStart b)

/-- WSHL s<b>, k (R133). -/
def execWshl (b : Buf) (k : Nat) (s : State) : Host.Outcome State Fault Refusal :=
  s.issue legalInBody 0x6 (.wshl b k 0)

/-- EMIT s<b>, ch (R136). -/
def execEmit (b : Buf) (ch : Nat) (s : State) : Host.Outcome State Fault Refusal :=
  s.issue legalInBody 0x7 (.emitStart b ch)

/-- DECOR (R139). -/
def execDecor (s : State) : Host.Outcome State Fault Refusal :=
  s.issue legalInBody 0x8 .decorStart

/-- FEND (R142). -/
def execFend (s : State) : Host.Outcome State Fault Refusal :=
  s.issue legalInBody 0x9 .fendStart

end Sys2Proof.Machine
end

