-- ==== Sys2Proof/Machine/Dispatch.lean ====
section
/-! DEFINITION. The dispatch from a command to its meaning. -/

namespace Sys2Proof.Machine

def exec (i : Instr) (s : State) : Host.Outcome State Fault Refusal :=
  match i with
  | .nop => Sys2Proof.Machine.execNop s
  | .fstart => Sys2Proof.Machine.execFstart s
  | .fcfg => Sys2Proof.Machine.execFcfg s
  | .getb n => Sys2Proof.Machine.execGetb n s
  | .getbs n => Sys2Proof.Machine.execGetbs n s
  | .resid b => Sys2Proof.Machine.execResid b s
  | .recon b => Sys2Proof.Machine.execRecon b s
  | .wshl b k => Sys2Proof.Machine.execWshl b k s
  | .emit b ch => Sys2Proof.Machine.execEmit b ch s
  | .decor => Sys2Proof.Machine.execDecor s
  | .fend => Sys2Proof.Machine.execFend s

end Sys2Proof.Machine
end

