-- ==== Sys2Proof/Machine/HostAccess.lean ====
section
/-! DEFINITION. What the outside world does to the block, apart from issuing commands: the register map (R21), host
writes (R56, R58, R59), host reads (R57, R59), the reset input (R166), the byte source (R102, R168) and the caller's
buffer (R174). -/

namespace Sys2Proof.Machine

/-- The registers of the window (R21). -/
inductive Reg where
  | id
  | ctrl
  | status
  | errcode
  | errpos
  | erridx
  | cmd
  | rdata
  | blksize
  | fmt
  | outoff
  | outlen
  | outch
  | pcfg
  | saddr
  | sdataLo
  | sdataHi
  | crc16
  | crc8
  | bitposLo
  | bitposHi
  | fsize
  | coef (j : Nat)
deriving DecidableEq, Repr

/-- The register map below COEF0 (R21). -/
def registerMap : List (Nat × Reg) :=
  [ (0x000, .id), (0x004, .ctrl), (0x008, .status), (0x00C, .errcode), (0x010, .errpos), (0x014, .erridx),
    (0x018, .cmd), (0x01C, .rdata), (0x020, .blksize), (0x024, .fmt), (0x028, .outoff), (0x02C, .outlen),
    (0x030, .outch), (0x034, .pcfg), (0x038, .saddr), (0x03C, .sdataLo), (0x040, .sdataHi), (0x044, .crc16),
    (0x048, .crc8), (0x04C, .bitposLo), (0x050, .bitposHi), (0x054, .fsize) ]

/-- The register at an aligned offset; COEF0 to COEF31 stand at 0x080 + 4·j; every other offset is reserved (R21). -/
def registerAt (off : BitVec 12) : Option Reg :=
  if 0x080 ≤ off.toNat ∧ off.toNat < 0x100 then some (.coef ((off.toNat - 0x080) / 4))
  else registerMap.lookup off.toNat

/-- Whether an offset is a multiple of 4 (R54). -/
def aligned (off : BitVec 12) : Bool := decide (off.toNat % 4 = 0)

/-! ### Register values -/

/-- The word a register shows while BUSY = 0, without the side effects of R59. SDATA_LO shows the low word of the
entry SADDR names, or 0 where its valid tag is clear (such a read faults, `hostRead`). -/
def State.registerWord (s : State) : Reg → Word
  | .id => Config.idWord
  | .ctrl => s.ctrl.word
  | .status => s.statusWord
  | .errcode => s.err.word
  | .errpos => s.err.pos
  | .erridx => s.err.idx
  | .cmd => 0
  | .rdata => s.rdata
  | .blksize => s.frame.blksize.setWidth 32
  | .fmt => (0 : BitVec 18) ++ s.frame.depth ++ (0 : BitVec 4) ++ s.frame.chasgn
  | .outoff => s.frame.outoff
  | .outlen => s.frame.outlen
  | .outch => s.frame.outch.setWidth 32
  | .pcfg =>
    (0 : BitVec 11) ++ s.pcfg.shift ++ (0 : BitVec 2) ++ s.pcfg.order ++ (0 : BitVec 7) ++
      BitVec.ofBool (decide (s.pcfg.kind = .lpc))
  | .saddr => (0 : BitVec 15) ++ BitVec.ofBool (decide (s.saddr.sel = .s1)) ++ s.saddr.idx
  | .sdataLo => ((s.readScratch s.saddr.sel s.saddr.idx.toNat).getD 0).setWidth 32
  | .sdataHi => s.rhi
  | .crc16 => s.input.crc16.setWidth 32
  | .crc8 => s.input.crc8.setWidth 32
  | .bitposLo => s.input.bitPos.setWidth 32
  | .bitposHi => s.input.bitPos.extractLsb' 32 32
  | .fsize => s.fsize
  | .coef j => s.coefAt j

/-! ### Host writes -/

/-- SADDR.IDX <- (idx + 1) mod 65536 (R59). -/
def State.nextScratchIndex (s : State) : State :=
  { s with saddr := { s.saddr with idx := s.saddr.idx + 1 } }

/-- HostWrite(SDATA_LO, v): commit the entry {WHI, v} and step SADDR.IDX (R59). -/
def State.commitScratch (s : State) (v : Word) : State :=
  (s.writeScratch s.saddr.sel s.saddr.idx.toNat (s.whi ++ v)).nextScratchIndex

/-- HostWrite(COEF[j], v), which sets CV[j] (R43, R46). -/
def State.writeCoef (s : State) (j : Nat) (v : Word) : State :=
  { s with coef := s.coef.setIfInBounds j v, coefTag := s.coefTag.setIfInBounds j true }

/-- PCFG from a written word (R37). -/
def PredictorConfig.ofWord (v : Word) : PredictorConfig :=
  { kind := if v.getLsbD 0 then .lpc else .fixed
    order := v.extractLsb' 8 6
    shift := v.extractLsb' 16 5 }

/-- SADDR from a written word (R38). -/
def ScratchAddress.ofWord (v : Word) : ScratchAddress :=
  { idx := v.extractLsb' 0 16, sel := if v.getLsbD 16 then .s1 else .s0 }

/-- A write of the frame configuration: rejected in BODY (R58). -/
def State.writeFrame (s : State) (f : FrameConfig) : State :=
  match s.mode with
  | .idle => { s with frame := f }
  | .hdr => { s with frame := f }
  | .body => s.reject
  | .error => { s with frame := f }
  | .fatal => { s with frame := f }

/-- A host write that R56 does not reject (R22, R25 to R43, R58, R59). Read-only registers ignore it. PCFG and COEF in
ERROR and FATAL: Assumption 13 (DEDUCED, unsafe). A write to CMD is the issue of a command, which `step` performs. -/
def State.writeAccepted (s : State) (r : Reg) (v : Word) : State :=
  match r with
  | .ctrl => if v.getLsbD 31 then s.resetBlock else { s with ctrl := Ctrl.ofWord v }
  | .status => { s with flags := s.flags.clearedBy v }
  | .blksize => s.writeFrame { s.frame with blksize := v.extractLsb' 0 17 }
  | .fmt => s.writeFrame { s.frame with chasgn := v.extractLsb' 0 4, depth := v.extractLsb' 8 6 }
  | .outoff => s.writeFrame { s.frame with outoff := v }
  | .outlen => s.writeFrame { s.frame with outlen := v }
  | .outch => s.writeFrame { s.frame with outch := v.extractLsb' 0 4 }
  | .pcfg => { s with pcfg := PredictorConfig.ofWord v }
  | .saddr => { s with saddr := ScratchAddress.ofWord v }
  | .sdataLo => s.commitScratch v
  | .sdataHi => { s with whi := v }
  | .coef j => s.writeCoef j v
  | .id => s
  | .errcode => s
  | .errpos => s
  | .erridx => s
  | .cmd => s
  | .rdata => s
  | .crc16 => s
  | .crc8 => s
  | .bitposLo => s
  | .bitposHi => s
  | .fsize => s

/-- The registers a host may write while BUSY = 1 (R56). -/
def Reg.writableWhileBusy : Reg → Bool
  | .ctrl => true
  | .status => true
  | _ => false

/-- A host write to a register (R56). -/
def State.writeRegister (s : State) (r : Reg) (v : Word) : State :=
  if s.busy ∧ ¬r.writableWhileBusy then s.reject else s.writeAccepted r v

/-- HostWrite(off, v), but for a write to CMD (R54, R23). Reserved offsets while BUSY: Assumption 12 (DEDUCED, unsafe). -/
def hostWrite (off : BitVec 12) (v : Word) (s : State) : Host.Outcome State Fault Refusal :=
  if aligned off then
    match registerAt off with
    | some r => .next (s.writeRegister r v)
    | none => .next s
  else .refused (.busError off)

/-! ### Host reads -/

/-- The registers a host read of which returns the current value while BUSY = 1 (R57). -/
def Reg.readableWhileBusy : Reg → Bool
  | .id => true
  | .ctrl => true
  | .status => true
  | _ => false

/-- The outside world gets a free value back (R57). -/
def State.drawFree (s : State) : State :=
  { s with hostData := Config.freeWord s.draws, draws := s.draws + 1 }

/-- HostRead(SDATA_LO) while BUSY = 0: the low word is returned and the high word latched (R59). -/
def State.readSdataLo (s : State) : Host.Outcome State Fault Refusal :=
  match s.readScratch s.saddr.sel s.saddr.idx.toNat with
  | some x => .next { s with hostData := s.registerWord .sdataLo, rhi := x.extractLsb' 32 32 }
  | none => .fault (.unwrittenScratch s.saddr.sel s.saddr.idx.toNat)

/-- HostRead(SDATA_HI) while BUSY = 0: RHI is returned and SADDR.IDX steps (R59). -/
def State.readSdataHi (s : State) : State :=
  { s.nextScratchIndex with hostData := s.registerWord .sdataHi }

/-- A host read of a register (R57, R59, R60). -/
def State.readRegister (s : State) (r : Reg) : Host.Outcome State Fault Refusal :=
  if s.busy ∧ ¬r.readableWhileBusy then .next s.drawFree
  else
    match r with
    | .sdataLo => s.readSdataLo
    | .sdataHi => .next s.readSdataHi
    | _ => .next { s with hostData := s.registerWord r }

/-- HostRead(off) (R54, R23). -/
def hostRead (off : BitVec 12) (s : State) : Host.Outcome State Fault Refusal :=
  if aligned off then
    match registerAt off with
    | some r => s.readRegister r
    | none => .next { s with hostData := 0 }
  else .refused (.busError off)

/-! ### The byte source and the caller's buffer -/

/-- One more byte to deliver; after the end of stream there is none (R102). Assumption 14 (DEDUCED, safe). -/
def ByteSource.deliver (p : ByteSource) (b : Byte) : ByteSource :=
  if p.ended then p else { p with bytes := p.bytes ++ [b] }

/-- A change of what stands behind the byte requests. -/
def State.withSource (s : State) (p : ByteSource) : State :=
  { s with input := { s.input with source := p } }

/-- A read of the caller's buffer by the host or another agent: an entry nothing has written is a free value (R174). -/
def State.bufferRead (s : State) (ch idx : Nat) : State :=
  match s.readOut ch idx with
  | some v => { s with hostData := v }
  | none => s.drawFree

/-! ### Events -/

/-- The command word an event issues: a host write to CMD (R30). -/
def Event.commandWord : Event → Option Word
  | .write off v => if registerAt off = some .cmd then some v else none
  | .read _ => none
  | .narrow _ => none
  | .hardReset => none
  | .sourceByte _ => none
  | .sourceEnd => none
  | .reposition _ => none
  | .bufferWrite _ _ _ => none
  | .bufferRead _ _ => none

/-- The effect of an event that issues no command. -/
def outsideEvent (e : Event) (s : State) : Host.Outcome State Fault Refusal :=
  match e with
  | .write off v => hostWrite off v s
  | .read off => hostRead off s
  | .narrow off => .refused (.busError off)
  | .hardReset => .next s.resetBlock
  | .sourceByte b => .next (s.withSource (s.input.source.deliver b))
  | .sourceEnd => .next (s.withSource { s.input.source with ended := true })
  | .reposition p => .next (s.withSource p)
  | .bufferWrite ch idx v => .next (s.outWrite ch.toNat idx.toNat v)
  | .bufferRead ch idx => .next (s.bufferRead ch.toNat idx.toNat)

end Sys2Proof.Machine
end

