-- ==== Sys2Proof/Machine/Step.lean ====
section
/-! DEFINITION. One step of the machine: the next event of the outside world, then the command in progress, if any, goes
on. The block fetches no instructions (R17, R71): the next command is the next host write to CMD. -/

namespace Sys2Proof.Machine

/-- A host write of `w` to CMD (R93). -/
def issueWord (w : Word) (s : State) : Host.Outcome State Fault Refusal :=
  match decode w with
  | .ok i => exec i s
  | .error _ => s.issueIllegal (fieldOp w)

/-- The effect of one event (R68(a)). -/
def perform (e : Event) (s : State) : Host.Outcome State Fault Refusal :=
  match e.commandWord with
  | some w => issueWord w s
  | none => outsideEvent e s

/-- The command that was in progress before an event goes on after it. -/
def resumeAfter : Host.Outcome State Fault Refusal → Host.Outcome State Fault Refusal
  | .next s => s.resume
  | .fault f => .fault f
  | .refused r => .refused r

/-- One step. With no event left, a command in progress goes on and an idle block waits for host accesses, unchanged
(R166). A command issued by this step's event has run inside it. -/
def step (s : State) : Host.Outcome State Fault Refusal :=
  match s.events with
  | [] => s.resume
  | e :: rest =>
    if s.busy then resumeAfter (perform e { s with events := rest })
    else perform e { s with events := rest }

/-- `s` with the command word of a table row as the next thing the host writes to CMD: the low `nbits` bits of `w`, every
bit above them 0. -/
def State.withFetchWord (s : State) (nbits w : Nat) : State :=
  { s with events := .write 0x018 (BitVec.ofNat 32 (w % 2 ^ nbits)) :: s.events }

end Sys2Proof.Machine
end

