-- ==== Sys2Proof/Machine/HostProgram.lean ====
section
/-! DEFINITION. The host's pseudo-instructions as the host accesses they stand for (R92), and a command line of RDB-1
assembly as its write to CMD (R91). WAIT is not here: it repeats a read of STATUS until BUSY = 0, and an undisturbed
command has stopped before the next event of the same list (Assumption 2). -/

namespace Sys2Proof.Machine

/-- `offset(reg)` (R21, R92). -/
def Reg.offset : Reg → BitVec 12
  | .id => 0x000
  | .ctrl => 0x004
  | .status => 0x008
  | .errcode => 0x00C
  | .errpos => 0x010
  | .erridx => 0x014
  | .cmd => 0x018
  | .rdata => 0x01C
  | .blksize => 0x020
  | .fmt => 0x024
  | .outoff => 0x028
  | .outlen => 0x02C
  | .outch => 0x030
  | .pcfg => 0x034
  | .saddr => 0x038
  | .sdataLo => 0x03C
  | .sdataHi => 0x040
  | .crc16 => 0x044
  | .crc8 => 0x048
  | .bitposLo => 0x04C
  | .bitposHi => 0x050
  | .fsize => 0x054
  | .coef j => BitVec.ofNat 12 (0x080 + 4 * j)

/-- `WR reg, v` (R92). -/
def wr (r : Reg) (v : Word) : List Event := [.write r.offset v]

/-- `RD reg` (R92). -/
def rd (r : Reg) : List Event := [.read r.offset]

/-- The word of SADDR for entry `i` of buffer `b`: (b << 16) | i (R92). -/
def scratchAddressWord (b : Buf) (i : Nat) : Word := (b.bit <<< 16) ||| BitVec.ofNat 32 i

/-- `WRS s<b>, i, v` (R92). -/
def wrs (b : Buf) (i : Nat) (v : Sample) : List Event :=
  wr .saddr (scratchAddressWord b i) ++ wr .sdataHi (v.extractLsb' 32 32) ++ wr .sdataLo (v.setWidth 32)

/-- `RDS s<b>, i` (R92): the low word is read first, then the high word. -/
def rds (b : Buf) (i : Nat) : List Event :=
  wr .saddr (scratchAddressWord b i) ++ rd .sdataLo ++ rd .sdataHi

/-- `WRC j, v` (R92). -/
def wrc (j : Nat) (v : Word) : List Event := wr (.coef j) v

/-- `SETPCFG kind, order, shift` (R92). -/
def setpcfg (kind order shift : Word) : List Event :=
  wr .pcfg (kind ||| (order <<< 8) ||| ((shift &&& 0x1F) <<< 16))

/-- `SETFMT chasgn, depth` (R92). -/
def setfmt (chasgn depth : Word) : List Event := wr .fmt (chasgn ||| (depth <<< 8))

/-- A line with a command mnemonic: the write of its word to CMD (R91). -/
def command (i : Instr) : List Event := wr .cmd (encode i)

end Sys2Proof.Machine
end

