-- ==== Sys2Proof/Safety.lean ====
section
/-! DEFINITION. The terms in which claims about the machine are stated: when a command runs undisturbed, the bits the
front end will read, the residual section as R83 writes it, whole or cut short, reconstruction as R129 writes it, and the
invariant every step keeps. Nothing here is used by the machine. -/

namespace Sys2Proof.Machine

/-! ### When a command runs undisturbed -/

/-- The block is in state `m`, not BUSY, and no pause is scheduled. -/
abbrev State.ready (s : State) (m : BlockState) : Prop :=
  s.mode = m ∧ s.task = none ∧ s.pace = []

/-- The block is not BUSY, no pause is scheduled, and R77 lets NOP and GETB execute. -/
abbrev State.accepting (s : State) : Prop :=
  legalWhileRunning s.mode = .ok ∧ s.task = none ∧ s.pace = []

/-- The commands R77 lets execute in BODY only. -/
def bodyOnly : Instr → Bool
  | .nop => false
  | .fstart => false
  | .fcfg => false
  | .getb _ => false
  | .getbs _ => false
  | .resid _ => true
  | .recon _ => true
  | .wshl _ _ => true
  | .emit _ _ => true
  | .decor => true
  | .fend => true

/-- What a command other than FSTART may do to DONE, REJ, the error latch and STATE (R20, R94, R151, R154): DONE changes
only by being set when the command completes (BUSY falls with it: Assumption 23), REJ only by being set when the command
is rejected; the latch changes only by error entry, which leaves DONE; STATE changes only by error entry or by a
completion's entering one of the states `ends`. -/
abbrev State.statusKept (s t : State) (ends : List BlockState) : Prop :=
  (t.flags.done = s.flags.done ∨ (t.flags.done = true ∧ t.task = none)) ∧
  (s.task = none → s.mode ≠ .error → s.mode ≠ .fatal → t.flags.rej = s.flags.rej) ∧
  ((t.err = s.err ∧ (t.mode = s.mode ∨ (t.mode ∈ ends ∧ t.task = none ∧ t.flags.done = true))) ∨
   (t.task = none ∧ t.flags.done = s.flags.done ∧ t.mode ≠ s.mode ∧ (t.mode = .error ∨ t.mode = .fatal)))

/-! ### The bits the front end will read -/

/-- The bits of a byte in stream order, most significant first (R61). -/
def byteBits (b : Byte) : List Bool := (List.range 8).reverse.map b.getLsbD

/-- The stream bits at hand: what is left of BUF, then the bytes the source answers at once (R61, R103). -/
def BitInput.bits (p : BitInput) : List Bool :=
  (List.range p.bufLeft).reverse.map p.buf.getLsbD ++ p.source.bytes.flatMap byteBits

/-- The number a field of bits stands for, first bit most significant (R61). -/
def bitsValue : List Bool → Nat := List.foldl (fun acc b => 2 * acc + b.toNat) 0

/-- The front end after `n` bits have been read, one `ReadBit` each. -/
def BitInput.advanceBy (p : BitInput) : Nat → BitInput
  | 0 => p
  | n + 1 =>
    match p.readBit with
    | .bit _ q => q.advanceBy n
    | .endOfStream => p
    | .wait => p

/-! ### Writing a run of entries -/

/-- Scratch buffer `b` with the values written at index `i` and the following ones. -/
def State.writeFrom (s : State) (b : Buf) (i : Nat) : List Sample → State
  | [] => s
  | v :: vs => (s.writeScratch b i v).writeFrom b (i + 1) vs

/-- The low words of the values written to channel `ch` of the caller's window, from window index `i` on (R136). -/
def State.outFrom (s : State) (ch i : Nat) : List Sample → State
  | [] => s
  | v :: vs => (s.outWrite ch (s.frame.outoff.toNat + i) (v.setWidth 32)).outFrom ch (i + 1) vs

/-- The first entries of buffer `b`, as many as `xs` has, are written and hold `xs`. -/
abbrev State.holds (s : State) (b : Buf) (xs : List Sample) : Prop :=
  (List.range xs.length).map (s.readScratch b) = xs.map some

/-- Every sample lies in the range of the nominal depth (R134). -/
abbrev State.inDepth (s : State) (xs : List Sample) : Prop :=
  (xs.all fun v =>
    decide (-(2 ^ (s.frame.depth.toNat - 1) : Int) ≤ v.toInt ∧ v.toInt ≤ 2 ^ (s.frame.depth.toNat - 1) - 1)) = true

/-! ### The residual section as R83 writes it -/

/-- The `n` low bits of `v`, most significant first. -/
def natBits (n v : Nat) : List Bool := (List.range n).reverse.map v.testBit

/-- The signed residual of a Rice value: v = 0, 1, 2, 3, 4 give 0, −1, 1, −2, 2 (R86). -/
def residualOf (v : Nat) : Int := if v % 2 = 0 then (v / 2 : Nat) else -(v / 2 : Nat) - 1

/-- The Rice code of `v` with parameter `k`: the quotient in unary, a 1, the remainder (R85). -/
def riceCode (k v : Nat) : List Bool := List.replicate (v / 2 ^ k) false ++ true :: natBits k (v % 2 ^ k)

/-- A partition (R83): Rice codes of unsigned values, or signed residuals of a raw width. -/
inductive PartitionCode where
  | rice (k : Nat) (values : List Nat)
  | escaped (w : Nat) (residuals : List Int)
deriving DecidableEq, Repr

/-- The bits of a partition (R83). -/
def PartitionCode.bits (wide : Bool) : PartitionCode → List Bool
  | .rice k vs => natBits (if wide then 5 else 4) k ++ vs.flatMap (riceCode k)
  | .escaped w rs =>
    natBits (if wide then 5 else 4) (if wide then 31 else 15) ++ natBits 5 w ++
      rs.flatMap (fun r => natBits w (r % 2 ^ w).toNat)

/-- The residuals of a partition, as scratch holds them (R119, R120). -/
def PartitionCode.samples : PartitionCode → List Sample
  | .rice _ vs => vs.map (fun v => BitVec.ofInt 64 (residualOf v))
  | .escaped _ rs => rs.map (BitVec.ofInt 64)

/-- A partition of `count` residuals that R83, R119 and R121 allow. -/
def PartitionCode.fits (wide : Bool) (count : Nat) : PartitionCode → Bool
  | .rice k vs =>
    decide (k < (if wide then 31 else 15)) && decide (vs.length = count) && vs.all (fun v => decide (v < 2 ^ 32))
  | .escaped w rs =>
    decide (w ≤ 31) && decide (rs.length = count) &&
      rs.all (fun r => decide (-(2 ^ w : Int) ≤ 2 * r ∧ 2 * r < 2 ^ w))

/-- Each partition fits its count: the first `first` residuals, the later ones `later` (R118). -/
def partitionsFit (wide : Bool) (first later : Nat) : List PartitionCode → Bool
  | [] => true
  | p :: ps => p.fits wide first && partitionsFit wide later later ps

/-- A residual section that R83, R116 and R117 allow for block size `n` and order `ord`. -/
def sectionFits (wide : Bool) (po n ord : Nat) (parts : List PartitionCode) : Bool :=
  decide (po ≤ 15) && decide (n % 2 ^ po = 0) && decide (ord ≤ n / 2 ^ po) && decide (parts.length = 2 ^ po) &&
    partitionsFit wide (n / 2 ^ po - ord) (n / 2 ^ po) parts

/-- The bits of a residual section (R83). -/
def sectionBits (wide : Bool) (po : Nat) (parts : List PartitionCode) : List Bool :=
  natBits 2 wide.toNat ++ natBits 4 po ++ parts.flatMap (PartitionCode.bits wide)

/-! ### A residual section cut short -/

/-- The complete partitions `done` begin a residual section that R83, R116 and R117 allow, and at least one partition
follows them. -/
def sectionOpen (wide : Bool) (po n ord : Nat) (done : List PartitionCode) : Bool :=
  decide (po ≤ 15) && decide (n % 2 ^ po = 0) && decide (ord ≤ n / 2 ^ po) && decide (done.length < 2 ^ po) &&
    partitionsFit wide (n / 2 ^ po - ord) (n / 2 ^ po) done

/-- The number of residuals of the partition after `done` (R118). -/
def nextCount (po n ord : Nat) (done : List PartitionCode) : Nat :=
  if done.isEmpty then n / 2 ^ po - ord else n / 2 ^ po

/-- The first residuals of a partition of `count` residuals, with at least one more to come. -/
def PartitionCode.begun (wide : Bool) (count : Nat) (p : PartitionCode) : Bool :=
  p.fits wide p.samples.length && decide (p.samples.length < count)

/-- `tail` is a part of one more residual of the partition and does not complete it (R85, R119): a Rice code cut in its
unary quotient or in its remainder, or a raw field cut short. -/
def PartitionCode.cutBy (p : PartitionCode) (tail : List Bool) : Prop :=
  match p with
  | .rice k _ =>
    ∃ q : Nat, q < 2 ^ (32 - k) ∧
      (tail = List.replicate q false ∨
        ∃ r : List Bool, r.length < k ∧ tail = List.replicate q false ++ true :: r)
  | .escaped w _ => tail.length < w

/-- RESID has stored the residuals of `parts` and consumed every bit at hand. -/
def State.residReached (s : State) (b : Buf) (parts : List PartitionCode) : State :=
  { s.writeFrom b s.pcfg.order.toNat (parts.flatMap PartitionCode.samples) with
    input := s.input.advanceBy s.input.bits.length }

/-- The bits at hand end inside the residual section: where (R122: the index of the residual, or none in a field), and
the state RESID has reached when it has used them up. -/
inductive ResidOutOfBits (s : State) (b : Buf) : Option Nat → State → Prop where
  /-- In the method or the partition order. -/
  | header (short : s.input.bits.length < 6)
      (method : s.input.bits.length < 2 ∨ bitsValue (s.input.bits.take 2) < 2) :
      ResidOutOfBits s b none (s.residReached b [])
  /-- In a partition's parameter. -/
  | parameter (wide : Bool) (po : Nat) (done : List PartitionCode) (tail : List Bool)
      (opened : sectionOpen wide po s.frame.blockSize s.pcfg.order.toNat done = true)
      (short : tail.length < (if wide then 5 else 4))
      (bits : s.input.bits = sectionBits wide po done ++ tail) :
      ResidOutOfBits s b none (s.residReached b done)
  /-- In the raw width of an escaped partition. -/
  | rawWidth (wide : Bool) (po : Nat) (done : List PartitionCode) (tail : List Bool)
      (opened : sectionOpen wide po s.frame.blockSize s.pcfg.order.toNat done = true)
      (short : tail.length < 5)
      (bits : s.input.bits =
        sectionBits wide po done ++ natBits (if wide then 5 else 4) (if wide then 31 else 15) ++ tail) :
      ResidOutOfBits s b none (s.residReached b done)
  /-- In a residual. -/
  | residual (wide : Bool) (po : Nat) (done : List PartitionCode) (here : PartitionCode) (tail : List Bool)
      (opened : sectionOpen wide po s.frame.blockSize s.pcfg.order.toNat done = true)
      (begun : here.begun wide (nextCount po s.frame.blockSize s.pcfg.order.toNat done) = true)
      (cut : here.cutBy tail)
      (bits : s.input.bits = sectionBits wide po (done ++ [here]) ++ tail) :
      ResidOutOfBits s b (some (s.pcfg.order.toNat + ((done ++ [here]).flatMap PartitionCode.samples).length))
        (s.residReached b (done ++ [here]))

/-- The bits at hand end inside the footer, with no padding bit found wrong by then (R142, R143). -/
abbrev State.fendOutOfBits (s : State) : Prop :=
  s.input.bits.length < (8 - s.input.bitPos.toNat % 8) % 8 + 16 ∧
    (s.input.bits.length < (8 - s.input.bitPos.toNat % 8) % 8 ∨
      bitsValue (s.input.bits.take ((8 - s.input.bitPos.toNat % 8) % 8)) = 0)

/-- The command waits at state `u` for a byte: the block is BUSY with WAITIN = 1 and nothing else differs from `u`. -/
def waitsAt (o : Host.Outcome State Fault Refusal) (u : State) : Prop :=
  ∃ t : State, o = .next t ∧ t.busy = true ∧ t.waitIn = true ∧ t = { u with task := t.task }

/-! ### Reconstruction as R129 writes it -/

/-- The sum of R129: `hist` holds the samples before index i, the most recent first. -/
def prediction (c hist : List Sample) : Sample := (List.zipWith (· * ·) hist c).sum

/-- The samples R129 gives for the residuals that follow the samples `hist` (most recent first). -/
def reconstructed (c : List Sample) (sh : Nat) : (hist residuals : List Sample) → List Sample
  | _, [] => []
  | hist, r :: rs =>
    let y := r + (prediction c hist).sshiftRight sh
    y :: reconstructed c sh (y :: hist) rs

/-! ### The invariant -/

/-- Whether a command may be in progress at this point in this block state: R77's table, which an error state does not
let past (R154). -/
def Task.allowedIn (t : Task) (m : BlockState) : Bool :=
  match t with
  | .fstart => decide (legalFstart m = .ok)
  | .fcfg => decide (legalFcfg m = .ok)
  | .nop => decide (legalWhileRunning m = .ok)
  | .getbStart _ _ => decide (legalWhileRunning m = .ok)
  | .raising _ _ => decide (legalWhileRunning m = .ok)
  | .reading _ _ use =>
    match use with
    | .getb _ _ => decide (legalWhileRunning m = .ok)
    | _ => decide (legalInBody m = .ok)
  | _ => decide (legalInBody m = .ok)

/-- What the error latch says of the block state: no code outside an error state, a code below 0x80 in ERROR, a code
from 0x80 on in FATAL (R27, R147, R151). -/
def State.latchAgrees (s : State) : Bool :=
  match s.mode with
  | .idle => decide (s.err.code = 0)
  | .hdr => decide (s.err.code = 0)
  | .body => decide (s.err.code = 0)
  | .error => decide (0 < s.err.code.toNat ∧ s.err.code.toNat < 0x80)
  | .fatal => decide (0x80 ≤ s.err.code.toNat)

/-- The invariant of the machine: the spaces keep their canonical form; BUFLEFT is what R48 says; in BODY the frame
configuration is one FCFG accepts (R58, R98); the error latch agrees with STATE; a command in progress is one R77
allows in STATE. -/
structure State.Inv (s : State) : Prop where
  scratch0_wf : s.scratch0.wf = true
  scratch1_wf : s.scratch1.wf = true
  out_wf : s.out.wf = true
  bufLeft_eq : s.input.bufLeft = s.input.padding
  frame_legal : s.mode = .body → s.frame.firstError = none
  latch : s.latchAgrees = true
  task_allowed : ∀ t, s.task = some t → t.allowedIn s.mode = true

end Sys2Proof.Machine
end

