-- ==== Sys2Proof/Certificates/Slice0/Obligations.lean ====
section
/-! DEFINITION. The statements about the machine, from the numbered rules of spec/. Each docstring cites the rules it
formalises; OBLIGATIONS.json lists them. "Undisturbed" hypotheses (`ready`, `accepting`) say that the block is in a
state, is not BUSY and has no pause scheduled; Assumption 2 says what a scheduled pause is. -/

open Sys2Proof Sys2Proof.Machine

/-! ### Encoding -/

/-- R74, R75: a well-formed command's word decodes to that command, with every operand at every value its field
admits. -/
def Obligations.DecodeEncodeRoundTrip : Prop :=
  ∀ i : Instr, WellFormed i = true → decode (encode i) = .ok i

/-- R75: a word that decodes has one meaning and is exactly that command's word. -/
def Obligations.DecodedWordIsItsEncoding : Prop :=
  ∀ (w : Word) (i : Instr), decode w = .ok i → WellFormed i = true ∧ encode i = w

/-- R76: which words are illegal, with the masks and matches of R75 written out (GETB and GETBS together: match
0x30000000, mask 0xFFFEC0FF, R112). -/
def Obligations.IllegalWordsAreThoseOfTheOpcodeMap : Prop :=
  ∀ w : Word,
    (∃ r, decode w = .error r) ↔
      ¬(w = 0x00000000 ∨ w = 0x10000000 ∨ w = 0x20000000 ∨ w &&& 0xFFFEC0FF = 0x30000000 ∨
        w &&& 0xFFFFFFFE = 0x40000000 ∨ w &&& 0xFFFFFFFE = 0x50000000 ∨ w &&& 0xFFFFC0FE = 0x60000000 ∨
        w &&& 0xFFFFFF8E = 0x70000000 ∨ w = 0x80000000 ∨ w = 0x90000000)

/-- R75, R76: words that spec/95_test_vectors.md lists. -/
def Obligations.ListedWordsDecodeAsListed : Prop :=
  decode 0x30000E00 = .ok (.getb 14) ∧ decode 0x30010200 = .ok (.getbs 2) ∧ decode 0x30002100 = .ok (.getb 33) ∧
    decode 0x40000000 = .ok (.resid .s0) ∧ decode 0x50000000 = .ok (.recon .s0) ∧
    decode 0x60003F00 = .ok (.wshl .s0 63) ∧ decode 0x60000101 = .ok (.wshl .s1 1) ∧
    decode 0x70000020 = .ok (.emit .s0 2) ∧ decode 0x80000000 = .ok .decor ∧ decode 0x90000000 = .ok .fend ∧
    decode 0x30000380 = .error .reservedBits ∧ decode 0xA0000000 = .error .reservedOpcode

/-! ### The step -/

/-- R93: the word of a host write to CMD that decodes to `i` runs `i` in that same step, when the block is not BUSY.
The events are what the host does next (Assumption 1). -/
def Obligations.StepRunsDecodedCommand : Prop :=
  ∀ (s : State) (w : Word) (i : Instr) (rest : List Event), s.task = none → s.events = .write 0x018 w :: rest →
    decode w = .ok i → step s = exec i { s with events := rest }

/-- Assumption 2: while BUSY an event takes effect first, and the command in progress then goes on; with no event it
goes on at once. -/
def Obligations.StepResumesCommandInProgress : Prop :=
  (∀ (s : State) (t : Task), s.task = some t → s.events = [] → step s = s.run t) ∧
  (∀ (s s' : State) (t : Task) (e : Event) (rest : List Event), s.task = some t → s.events = e :: rest →
    perform e { s with events := rest } = .next s' → step s = s'.resume)

/-- R76, R93: issuing an illegal word in IDLE, HDR or BODY raises ArgumentError with the word's OP field, and does
nothing else. -/
def Obligations.IllegalWordRaisesArgumentError : Prop :=
  ∀ (s : State) (w : Word) (r : Illegal) (rest : List Event), s.accepting → s.events = .write 0x018 w :: rest →
    decode w = .error r →
    step s = .next ({ s with events := rest }.errorEntry (w.extractLsb' 28 4) .argumentError)

/-- R154: in ERROR every word but exactly FSTART's, in FATAL every word, is rejected: REJ is set and nothing else
happens. -/
def Obligations.ErrorStatesRejectCommandWrites : Prop :=
  ∀ (s : State) (w : Word) (rest : List Event), s.task = none → s.events = .write 0x018 w :: rest →
    (s.mode = .fatal ∨ (s.mode = .error ∧ w ≠ 0x10000000)) →
    step s = .next { s with events := rest, flags := { s.flags with rej := true } }

/-- R77: FCFG in IDLE or BODY, and RESID, RECON, WSHL, EMIT, DECOR, FEND in IDLE or HDR, raise InvariantViolation
without other effect. -/
def Obligations.CommandInWrongStateRaisesInvariantViolation : Prop :=
  ∀ (i : Instr) (s : State), s.task = none → s.pace = [] →
    ((i = .fcfg ∧ (s.mode = .idle ∨ s.mode = .body)) ∨ (bodyOnly i = true ∧ (s.mode = .idle ∨ s.mode = .hdr))) →
    exec i s = .next (s.errorEntry (opcodeOf i) .invariantViolation)

/-! ### Error entry -/

/-- R151: what error entry writes, with the code numbers of R148 for each error, and that the stored flags (DONE among
them) and the bit input keep their values. -/
def Obligations.ErrorEntryLatchesErrorAndState : Prop :=
  ∀ (s : State) (op : BitVec 4) (e : RdbError),
    (s.errorEntry op e).err.code =
      (match e with
       | .reservedField => 0x01
       | .indivisiblePartitions => 0x02
       | .invalidLpcShift => 0x03
       | .invalidPadding => 0x04
       | .crc16Mismatch => 0x05
       | .frameTooLarge => 0x06
       | .invalidPartitionOrder => 0x07
       | .residualOverflow _ => 0x08
       | .unexpectedEndOfStream _ => 0x09
       | .argumentError => 0x40
       | .bitDepthOverflow _ _ => 0x80
       | .invariantViolation => 0x81) ∧
    (s.errorEntry op e).err.op = op ∧
    (s.errorEntry op e).err.ch = (match e with | .bitDepthOverflow ch _ => BitVec.ofNat 3 ch | _ => 0) ∧
    (s.errorEntry op e).err.pos = (s.input.bitPos - s.fsbit).setWidth 32 ∧
    (s.errorEntry op e).err.idx =
      (match e with
       | .residualOverflow i => BitVec.ofNat 32 i
       | .unexpectedEndOfStream (some i) => BitVec.ofNat 32 i
       | .bitDepthOverflow _ i => BitVec.ofNat 32 i
       | _ => 0xFFFFFFFF) ∧
    (s.errorEntry op e).mode =
      (match e with
       | .bitDepthOverflow _ _ => .fatal
       | .invariantViolation => .fatal
       | _ => .error) ∧
    (s.errorEntry op e).busy = false ∧ (s.errorEntry op e).flags = s.flags ∧ (s.errorEntry op e).input = s.input

/-- R155: FATAL is left by a hard reset or a soft reset and by nothing else; the latched error stays. -/
def Obligations.FatalIsLeftOnlyByReset : Prop :=
  ∀ (s t : State) (e : Event) (rest : List Event), s.mode = .fatal → s.task = none → s.events = e :: rest →
    e ≠ .hardReset → (∀ v : Word, v.getLsbD 31 = true → e ≠ .write 0x004 v) → step s = .next t →
    t.mode = .fatal ∧ t.err = s.err ∧ t.task = none

/-! ### NOP, FSTART, FCFG -/

/-- R96: NOP completes and does nothing else. -/
def Obligations.NopCompletes : Prop :=
  ∀ s : State, s.accepting → exec .nop s = .next { s with flags := { s.flags with done := true } }

/-- R97: FSTART, in IDLE, HDR, BODY and ERROR. -/
def Obligations.FstartOpensFrame : Prop :=
  ∀ s : State, s.mode ≠ .fatal → s.task = none → s.pace = [] →
    exec .fstart s = .next
      { s with
        input :=
          { s.input with
            bitPos := s.input.bitPos + BitVec.ofNat 64 s.input.bufLeft
            bufLeft := 0
            crc16 := 0
            crc8 := 0 }
        fsbit := s.input.bitPos + BitVec.ofNat 64 s.input.bufLeft
        err := { code := 0, op := 0, ch := 0, pos := 0, idx := 0xFFFFFFFF }
        scratch0 := []
        scratch1 := []
        coefTag := Vector.replicate 32 false
        mode := .hdr
        flags := { s.flags with done := true } }

/-- R98: FCFG opens the body when every check passes. -/
def Obligations.FcfgOpensBody : Prop :=
  ∀ s : State, s.ready .hdr → 1 ≤ s.frame.blksize.toNat → s.frame.blksize.toNat ≤ 65536 →
    s.frame.chasgn.toNat < 11 → 1 ≤ s.frame.depth.toNat → s.frame.depth.toNat ≤ 32 →
    1 ≤ s.frame.outch.toNat → s.frame.outch.toNat ≤ 8 →
    (if s.frame.chasgn.toNat ≤ 7 then s.frame.chasgn.toNat + 1 else 2) ≤ s.frame.outch.toNat →
    s.frame.outoff.toNat + s.frame.blksize.toNat ≤ s.frame.outlen.toNat →
    exec .fcfg s = .next { s with mode := .body, flags := { s.flags with done := true } }

/-- R98, R152: the first failing check of FCFG is the one reported. -/
def Obligations.FcfgReportsFirstFailingCheck : Prop :=
  ∀ s : State, s.ready .hdr →
    (¬(1 ≤ s.frame.blksize.toNat ∧ s.frame.blksize.toNat ≤ 65536) →
      exec .fcfg s = .next (s.errorEntry 0x2 .argumentError)) ∧
    (1 ≤ s.frame.blksize.toNat → s.frame.blksize.toNat ≤ 65536 → 11 ≤ s.frame.chasgn.toNat →
      exec .fcfg s = .next (s.errorEntry 0x2 .reservedField)) ∧
    (s.frame.chasgn.toNat < 11 →
      (¬(1 ≤ s.frame.depth.toNat ∧ s.frame.depth.toNat ≤ 32) ∨
        ¬(1 ≤ s.frame.outch.toNat ∧ s.frame.outch.toNat ≤ 8) ∨
        s.frame.outch.toNat < (if s.frame.chasgn.toNat ≤ 7 then s.frame.chasgn.toNat + 1 else 2) ∨
        s.frame.outlen.toNat < s.frame.outoff.toNat + s.frame.blksize.toNat) →
      exec .fcfg s = .next (s.errorEntry 0x2 .argumentError))

/-! ### Bit input, GETB and GETBS -/

/-- R61, R103: reading `n` bits takes the first `n` stream bits and leaves the others, advances BITPOS by `n` and both
CRCs by each bit (R107). -/
def Obligations.ReadingBitsAdvancesCursorAndCrcs : Prop :=
  ∀ (p : BitInput) (n : Nat), n ≤ p.bits.length →
    (p.advanceBy n).bits = p.bits.drop n ∧ (p.advanceBy n).bitPos = p.bitPos + BitVec.ofNat 64 n ∧
    (p.advanceBy n).crc16 = (p.bits.take n).foldl crc16Update p.crc16 ∧
    (p.advanceBy n).crc8 = (p.bits.take n).foldl crc8Update p.crc8 ∧
    (p.advanceBy n).source.ended = p.source.ended

/-- R76, R112: GETB and GETBS of 0 bits consume nothing and give 0; of more than 32 bits they raise ArgumentError and
consume nothing. -/
def Obligations.GetbOfZeroBitsAndOfMoreThan32Bits : Prop :=
  ∀ s : State, s.accepting →
    exec (.getb 0) s = .next { s with rdata := 0, flags := { s.flags with done := true } } ∧
    exec (.getbs 0) s = .next { s with rdata := 0, flags := { s.flags with done := true } } ∧
    ∀ n : Nat, 32 < n →
      exec (.getb n) s = .next (s.errorEntry 0x3 .argumentError) ∧
      exec (.getbs n) s = .next (s.errorEntry 0x3 .argumentError)

/-- R104, R112: GETB n reads the next n bits, most significant first, into RDATA. -/
def Obligations.GetbReadsUnsignedField : Prop :=
  ∀ (s : State) (n : Nat), s.accepting → 1 ≤ n → n ≤ 32 → n ≤ s.input.bits.length →
    exec (.getb n) s = .next
      { s with
        rdata := BitVec.ofNat 32 (bitsValue (s.input.bits.take n))
        input := s.input.advanceBy n
        flags := { s.flags with done := true } }

/-- R105, R112: GETBS n reads the next n bits as a two's-complement number, sign-extended into RDATA. -/
def Obligations.GetbsReadsSignedField : Prop :=
  ∀ (s : State) (n : Nat), s.accepting → 1 ≤ n → n ≤ 32 → n ≤ s.input.bits.length →
    exec (.getbs n) s = .next
      { s with
        rdata := BitVec.ofInt 32
          (if s.input.bits.head? = some true then (bitsValue (s.input.bits.take n) : Int) - 2 ^ n
           else bitsValue (s.input.bits.take n))
        input := s.input.advanceBy n
        flags := { s.flags with done := true } }

/-- R110: the end of stream at a frame boundary. -/
def Obligations.GetbAtFrameBoundarySignalsNoMoreFrames : Prop :=
  ∀ (s : State) (n : Nat) (i : Instr), s.task = none → s.pace = [] → 1 ≤ n → n ≤ 32 → (i = .getb n ∨ i = .getbs n) →
    (s.mode = .idle ∨ (s.mode = .hdr ∧ s.input.bitPos = s.fsbit)) → s.input.bits = [] → s.input.source.ended = true →
    exec i s = .next { s with mode := .idle, flags := { s.flags with eos := true, done := true } }

/-- R111, R122, R148: an end of stream that the source has reached when the command runs out of bits, in a GETB (but for
R110's case), in RESID and in FEND, is UnexpectedEndOfStream; the bits consumed before it stay consumed, the residuals
decoded before it stay stored, and the index is that of the residual it cuts, if it cuts one. An end of stream that
arrives later is LateAnswerEndsTheCommandAsAnEarlyOne. -/
def Obligations.CutShortIsUnexpectedEndOfStream : Prop :=
  (∀ (s : State) (n : Nat) (i : Instr), s.accepting → n ≤ 32 → (i = .getb n ∨ i = .getbs n) →
    s.input.bits.length < n → s.input.source.ended = true →
    (s.input.bits ≠ [] ∨ s.mode = .body ∨ (s.mode = .hdr ∧ s.input.bitPos ≠ s.fsbit)) →
    exec i s = .next
      ({ s with input := s.input.advanceBy s.input.bits.length }.errorEntry 0x3 (.unexpectedEndOfStream none))) ∧
  (∀ (s u : State) (b : Buf) (idx : Option Nat), s.ready .body → s.pcfg.legal = true → s.pcfg.negativeShift = false →
    ResidOutOfBits s b idx u → s.input.source.ended = true →
    exec (.resid b) s = .next (u.errorEntry 0x4 (.unexpectedEndOfStream idx))) ∧
  (∀ s : State, s.ready .body → s.fendOutOfBits → s.input.source.ended = true →
    exec .fend s = .next
      ({ s with input := s.input.advanceBy s.input.bits.length }.errorEntry 0x9 (.unexpectedEndOfStream none)))

/-- R19, R102: with too few bits at hand and no end of stream GETB, RESID and FEND stay BUSY with WAITIN = 1; the bits at
hand are consumed, RESID's residuals before them are stored, and nothing else changes. R20: STATUS[8], WAITIN, is 1
exactly when a command is in progress whose next action is a ReadBit, with BUFLEFT = 0, no byte at hand and no end of
stream: exactly when the command's next sequencer step is to wait (Assumption 17, DEDUCED). -/
def Obligations.CommandsWaitForTheByteSource : Prop :=
  (∀ (s : State) (n : Nat) (i : Instr), s.accepting → n ≤ 32 → (i = .getb n ∨ i = .getbs n) →
    s.input.bits.length < n → s.input.source.ended = false →
    waitsAt (exec i s) { s with input := s.input.advanceBy s.input.bits.length }) ∧
  (∀ (s u : State) (b : Buf) (idx : Option Nat), s.ready .body → s.pcfg.legal = true → s.pcfg.negativeShift = false →
    ResidOutOfBits s b idx u → s.input.source.ended = false → waitsAt (exec (.resid b) s) u) ∧
  (∀ s : State, s.ready .body → s.fendOutOfBits → s.input.source.ended = false →
    waitsAt (exec .fend s) { s with input := s.input.advanceBy s.input.bits.length }) ∧
  (∀ s : State,
    (s.statusWord.getLsbD 8 = true ↔
      ((∃ (left acc : Nat) (use : Purpose), s.task = some (.reading (left + 1) acc use)) ∨
        (∃ (here : ResidPos) (k q : Nat), s.task = some (.unary here k q))) ∧
      s.input.bufLeft = 0 ∧ s.input.source.bytes = [] ∧ s.input.source.ended = false) ∧
    (s.statusWord.getLsbD 8 = true ↔ ∃ t : Task, s.task = some t ∧ advance t s = .wait))

/-- R102, R104: a command that waits, whichever it is, goes on when the byte or the end of stream arrives, and does what
it does where the source had that answer from the start (for a GETB at a frame boundary that is R110, elsewhere R111). -/
def Obligations.LateAnswerEndsTheCommandAsAnEarlyOne : Prop :=
  ∀ (i : Instr) (s t : State) (b : Byte), s.task = none → s.pace = [] → s.events = [] → exec i s = .next t →
    t.busy = true →
    step { t with events := [.sourceByte b] } =
      exec i (s.withSource { s.input.source with bytes := s.input.source.bytes ++ [b] }) ∧
    step { t with events := [.sourceEnd] } = exec i (s.withSource { s.input.source with ended := true })

/-- R107: both CRC updates for every register value and message bit. R108, R109: the check values over "123456789". R108:
a CRC-16 register that absorbs 16 bits ends at 0 exactly when they are its own value. The polynomials are R9's, which
the spec marks as general knowledge (Assumption 11). -/
def Obligations.CrcUpdatesFollowTheirPolynomials : Prop :=
  (∀ (c : BitVec 16) (bit : Bool),
    crc16Update c bit = (c <<< 1) ^^^ (if (bit ^^ c.getLsbD 15) = true then 0x8005 else 0)) ∧
  (∀ (c : BitVec 8) (bit : Bool),
    crc8Update c bit = (c <<< 1) ^^^ (if (bit ^^ c.getLsbD 7) = true then 0x07 else 0)) ∧
  (([0x31, 0x32, 0x33, 0x34, 0x35, 0x36, 0x37, 0x38, 0x39] : List Byte).flatMap byteBits).foldl crc16Update 0 =
    0xFEE8 ∧
  (([0x31, 0x32, 0x33, 0x34, 0x35, 0x36, 0x37, 0x38, 0x39] : List Byte).flatMap byteBits).foldl crc8Update 0 = 0xF4 ∧
  (∀ c v : BitVec 16, (natBits 16 v.toNat).foldl crc16Update c = 0 ↔ v = c)

/-! ### RESID -/

/-- R83, R113, R118 to R121: on every residual section that R83 allows, RESID stores exactly its residuals at the
indices from ORDER on and consumes exactly its bits. -/
def Obligations.ResidDecodesEverySection : Prop :=
  ∀ (s : State) (b : Buf) (wide : Bool) (po : Nat) (parts : List PartitionCode) (rest : List Bool),
    s.ready .body → s.pcfg.legal = true → s.pcfg.negativeShift = false →
    sectionFits wide po s.frame.blockSize s.pcfg.order.toNat parts = true →
    s.input.bits = sectionBits wide po parts ++ rest →
    exec (.resid b) s = .next
      ({ s.writeFrom b s.pcfg.order.toNat (parts.flatMap PartitionCode.samples) with
          input := s.input.advanceBy (sectionBits wide po parts).length }.complete)

/-- R86: the residual of a Rice value, and its range. -/
def Obligations.ZigzagGivesTheSignedResidual : Prop :=
  ∀ v : Nat, v < 2 ^ 32 →
    zigzag v = BitVec.ofInt 64 (residualOf v) ∧ -(2 ^ 31 : Int) ≤ residualOf v ∧ residualOf v ≤ 2 ^ 31 - 1

/-- R114, R125, R128: RESID and RECON check PCFG, then the sign of the shift, before any stream bit or scratch entry. -/
def Obligations.PredictorConfigIsCheckedFirst : Prop :=
  ∀ (s : State) (b : Buf), s.ready .body →
    ((s.pcfg.kind = .fixed ∧ 4 < s.pcfg.order.toNat ∨
        s.pcfg.kind = .lpc ∧ (s.pcfg.order.toNat = 0 ∨ 32 < s.pcfg.order.toNat)) →
      exec (.resid b) s = .next (s.errorEntry 0x4 .argumentError) ∧
      exec (.recon b) s = .next (s.errorEntry 0x5 .argumentError)) ∧
    (s.pcfg.kind = .lpc → 1 ≤ s.pcfg.order.toNat → s.pcfg.order.toNat ≤ 32 → s.pcfg.shift.getLsbD 4 = true →
      exec (.resid b) s = .next (s.errorEntry 0x4 .invalidLpcShift) ∧
      exec (.recon b) s = .next (s.errorEntry 0x5 .invalidLpcShift))

/-- R115, R116, R117: methods 2 and 3 raise ReservedField after the 2 bits; after the partition order,
IndivisiblePartitions when N is not a multiple of 2^po, else InvalidPartitionOrder when N >> po is below ORDER. -/
def Obligations.ResidChecksMethodThenPartitionOrder : Prop :=
  ∀ (s : State) (b : Buf), s.ready .body → s.pcfg.legal = true → s.pcfg.negativeShift = false →
    (2 ≤ s.input.bits.length → 2 ≤ bitsValue (s.input.bits.take 2) →
      exec (.resid b) s = .next ({ s with input := s.input.advanceBy 2 }.errorEntry 0x4 .reservedField)) ∧
    (6 ≤ s.input.bits.length → bitsValue (s.input.bits.take 2) < 2 →
      (s.frame.blockSize % 2 ^ bitsValue ((s.input.bits.drop 2).take 4) ≠ 0 →
        exec (.resid b) s = .next ({ s with input := s.input.advanceBy 6 }.errorEntry 0x4 .indivisiblePartitions)) ∧
      (s.frame.blockSize % 2 ^ bitsValue ((s.input.bits.drop 2).take 4) = 0 →
        s.frame.blockSize / 2 ^ bitsValue ((s.input.bits.drop 2).take 4) < s.pcfg.order.toNat →
        exec (.resid b) s = .next ({ s with input := s.input.advanceBy 6 }.errorEntry 0x4 .invalidPartitionOrder)))

/-- R121, R122: when the count of zero bits of a code, wherever it stands in the section, reaches 2^(32−k), RESID raises
ResidualOverflow without reading further; the residuals before it are stored. `done` are the complete partitions before
it, `vs` the values before it in its own partition. -/
def Obligations.ResidBoundsTheUnaryQuotient : Prop :=
  ∀ (s : State) (b : Buf) (wide : Bool) (po k : Nat) (done : List PartitionCode) (vs : List Nat) (rest : List Bool),
    s.ready .body → s.pcfg.legal = true → s.pcfg.negativeShift = false →
    sectionOpen wide po s.frame.blockSize s.pcfg.order.toNat done = true →
    (PartitionCode.rice k vs).begun wide (nextCount po s.frame.blockSize s.pcfg.order.toNat done) = true →
    s.input.bits =
      sectionBits wide po (done ++ [PartitionCode.rice k vs]) ++ List.replicate (2 ^ (32 - k)) false ++ rest →
    exec (.resid b) s = .next
      ({ s.writeFrom b s.pcfg.order.toNat ((done ++ [PartitionCode.rice k vs]).flatMap PartitionCode.samples) with
          input :=
            s.input.advanceBy ((sectionBits wide po (done ++ [PartitionCode.rice k vs])).length + 2 ^ (32 - k)) }.errorEntry 0x4
        (.residualOverflow
          (s.pcfg.order.toNat + ((done ++ [PartitionCode.rice k vs]).flatMap PartitionCode.samples).length)))

/-! ### RECON and WSHL -/

/-- R126, R129, R130, R132: RECON replaces the residuals by the samples of the recurrence, keeps the warm-ups and clears
every coefficient tag; with ORDER ≥ N its loop is empty, reads no entry, and only the tags are cleared. -/
def Obligations.ReconFollowsTheRecurrence : Prop :=
  ∀ (s : State) (b : Buf) (xs : List Sample), s.ready .body → s.pcfg.legal = true →
    s.pcfg.negativeShift = false →
    (s.pcfg.kind = .lpc → ∀ j : Nat, j < s.pcfg.order.toNat → s.coefValid j = true) →
    (xs.length = s.frame.blockSize → s.holds b xs →
      exec (.recon b) s = .next
        ({ s.writeFrom b s.pcfg.order.toNat
              (reconstructed
                (if s.pcfg.kind = PredictorKind.fixed then fixedCoefs s.pcfg.order.toNat
                 else (List.range s.pcfg.order.toNat).map fun j => (s.coefAt j).signExtend 64)
                (if s.pcfg.kind = PredictorKind.fixed then 0 else (s.pcfg.shift.extractLsb' 0 4).toNat)
                (xs.take s.pcfg.order.toNat).reverse (xs.drop s.pcfg.order.toNat)) with
            coefTag := Vector.replicate 32 false }.complete)) ∧
    (s.frame.blockSize ≤ s.pcfg.order.toNat →
      exec (.recon b) s = .next { s with coefTag := Vector.replicate 32 false }.complete)

/-- R127: the fixed predictors written out, with x[i−1] = p, x[i−2] = q, x[i−3] = u, x[i−4] = v. -/
def Obligations.FixedPredictorsWrittenOut : Prop :=
  ∀ (p q u v : Sample) (older : List Sample),
    prediction (fixedCoefs 0) (p :: q :: u :: v :: older) = 0 ∧
    prediction (fixedCoefs 1) (p :: q :: u :: v :: older) = p ∧
    prediction (fixedCoefs 2) (p :: q :: u :: v :: older) = 2 * p - q ∧
    prediction (fixedCoefs 3) (p :: q :: u :: v :: older) = 3 * p - 3 * q + u ∧
    prediction (fixedCoefs 4) (p :: q :: u :: v :: older) = 4 * p - 6 * q + 4 * u - v

/-- R133: WSHL shifts every sample left by k, modulo 2^64. -/
def Obligations.WshlShiftsEverySample : Prop :=
  ∀ (s : State) (b : Buf) (k : Nat) (xs : List Sample), s.ready .body → xs.length = s.frame.blockSize →
    s.holds b xs →
    exec (.wshl b k) s = .next
      (s.writeFrom b 0 (xs.map fun x => BitVec.ofInt 64 (x.toInt * 2 ^ k))).complete

/-- R45, R46: a read of a scratch entry whose valid tag is clear stops the model in the fault R45 requires, and so does a
read of an untagged coefficient (R46). Which entry or coefficient the fault names is read from the order of each
command's pseudocode (R126, R133, R136, R139): the model's reading, Assumptions 3 and 4 (DEDUCED). WSHL and EMIT name
the first unwritten entry. RECON takes all its coefficients first; then, at index ORDER, it reads back from entry
ORDER − 1, and names the last unwritten entry below ORDER, if there is one, else the first unwritten entry. DECOR names
the first index at which S0 or, with S0 written, S1 is unwritten; that is in pass 1, and pass 2 reads the same entries. -/
def Obligations.UnwrittenReadsStopTheModel : Prop :=
  (∀ (s : State) (b : Buf) (k ch : Nat) (xs : List Sample), s.ready .body → xs.length < s.frame.blockSize →
    s.holds b xs → s.readScratch b xs.length = none →
    exec (.wshl b k) s = .fault (.unwrittenScratch b xs.length) ∧
    (s.frame.chasgn.toNat ≤ 7 → ch ≤ s.frame.chasgn.toNat → s.inDepth xs →
      exec (.emit b ch) s = .fault (.unwrittenScratch b xs.length))) ∧
  (∀ (s : State) (b : Buf) (j : Nat), s.ready .body → s.pcfg.kind = .lpc → s.pcfg.legal = true →
    s.pcfg.negativeShift = false → j < s.pcfg.order.toNat → (∀ i : Nat, i < j → s.coefValid i = true) →
    s.coefValid j = false → exec (.recon b) s = .fault (.unwrittenCoef j)) ∧
  (∀ (s : State) (b : Buf) (j : Nat), s.ready .body → s.pcfg.legal = true → s.pcfg.negativeShift = false →
    (s.pcfg.kind = .lpc → ∀ i : Nat, i < s.pcfg.order.toNat → s.coefValid i = true) → j < s.frame.blockSize →
    s.pcfg.order.toNat < s.frame.blockSize → s.readScratch b j = none →
    (if j < s.pcfg.order.toNat then ∀ i : Nat, j < i → i < s.pcfg.order.toNat → s.readScratch b i ≠ none
     else ∀ i : Nat, i < j → s.readScratch b i ≠ none) →
    exec (.recon b) s = .fault (.unwrittenScratch b j)) ∧
  (∀ (s : State) (as bs : List Sample), s.ready .body → 8 ≤ s.frame.chasgn.toNat → as.length = bs.length →
    as.length < s.frame.blockSize → s.holds .s0 as → s.holds .s1 bs →
    s.inDepth (List.zipWith (decorrelateLeft s.frame.chasgn) as bs) →
    (s.readScratch .s0 as.length = none → exec .decor s = .fault (.unwrittenScratch .s0 as.length)) ∧
    (s.readScratch .s0 as.length ≠ none → s.readScratch .s1 as.length = none →
      exec .decor s = .fault (.unwrittenScratch .s1 as.length)))

/-! ### EMIT and DECOR -/

/-- R136: EMIT writes the samples, in range for the depth, to the channel's window entries from OUTOFF on. -/
def Obligations.EmitWritesTheChannelWindow : Prop :=
  ∀ (s : State) (b : Buf) (ch : Nat) (xs : List Sample), s.ready .body → s.frame.chasgn.toNat ≤ 7 →
    ch ≤ s.frame.chasgn.toNat → xs.length = s.frame.blockSize → s.holds b xs → s.inDepth xs →
    exec (.emit b ch) s = .next (s.outFrom ch 0 xs).complete

/-- R134, R136, R141: at the first sample out of range EMIT raises BitDepthOverflow; the entries before it stay
written. -/
def Obligations.EmitStopsAtFirstSampleOutOfRange : Prop :=
  ∀ (s : State) (b : Buf) (ch : Nat) (xs : List Sample) (v : Sample), s.ready .body → s.frame.chasgn.toNat ≤ 7 →
    ch ≤ s.frame.chasgn.toNat → xs.length < s.frame.blockSize → s.holds b (xs ++ [v]) → s.inDepth xs →
    ¬s.inDepth [v] →
    exec (.emit b ch) s = .next ((s.outFrom ch 0 xs).errorEntry 0x7 (.bitDepthOverflow ch xs.length))

/-- R136: EMIT on a joint-stereo frame or a channel the frame does not have, and R139: DECOR on an independent-channel
frame, raise InvariantViolation. -/
def Obligations.OutputCommandsCheckTheChannelAssignment : Prop :=
  ∀ s : State, s.ready .body →
    (∀ (b : Buf) (ch : Nat), (7 < s.frame.chasgn.toNat ∨ s.frame.chasgn.toNat < ch) →
      exec (.emit b ch) s = .next (s.errorEntry 0x7 .invariantViolation)) ∧
    (s.frame.chasgn.toNat < 8 → exec .decor s = .next (s.errorEntry 0x8 .invariantViolation))

/-- R137, R139: DECOR writes all of left to channel 0, then all of right to channel 1, and leaves S0 and S1 unchanged
(R140). -/
def Obligations.DecorWritesBothChannels : Prop :=
  ∀ (s : State) (as bs : List Sample), s.ready .body → 8 ≤ s.frame.chasgn.toNat →
    as.length = s.frame.blockSize → bs.length = s.frame.blockSize → s.holds .s0 as → s.holds .s1 bs →
    s.inDepth (List.zipWith (decorrelateLeft s.frame.chasgn) as bs) →
    s.inDepth (List.zipWith (decorrelateRight s.frame.chasgn) as bs) →
    exec .decor s = .next
      ((s.outFrom 0 0 (List.zipWith (decorrelateLeft s.frame.chasgn) as bs)).outFrom 1 0
        (List.zipWith (decorrelateRight s.frame.chasgn) as bs)).complete

/-- R134, R139: at the first left output out of range DECOR stops with channel 0 and its index, the left outputs before it
written and channel 1 untouched; when every left output is in range, all of channel 0 is written before the first right
output out of range stops DECOR. -/
def Obligations.DecorStopsAtFirstOutputOutOfRange : Prop :=
  (∀ (s : State) (as bs : List Sample) (a b : Sample), s.ready .body → 8 ≤ s.frame.chasgn.toNat →
    as.length = bs.length → as.length < s.frame.blockSize → s.holds .s0 (as ++ [a]) → s.holds .s1 (bs ++ [b]) →
    s.inDepth (List.zipWith (decorrelateLeft s.frame.chasgn) as bs) →
    ¬s.inDepth [decorrelateLeft s.frame.chasgn a b] →
    exec .decor s = .next
      ((s.outFrom 0 0 (List.zipWith (decorrelateLeft s.frame.chasgn) as bs)).errorEntry 0x8
        (.bitDepthOverflow 0 as.length))) ∧
  (∀ (s : State) (as bs : List Sample) (i : Nat) (v : Sample), s.ready .body → 8 ≤ s.frame.chasgn.toNat →
    as.length = s.frame.blockSize → bs.length = s.frame.blockSize → s.holds .s0 as → s.holds .s1 bs →
    s.inDepth (List.zipWith (decorrelateLeft s.frame.chasgn) as bs) →
    (List.zipWith (decorrelateRight s.frame.chasgn) as bs)[i]? = some v → ¬s.inDepth [v] →
    s.inDepth ((List.zipWith (decorrelateRight s.frame.chasgn) as bs).take i) →
    exec .decor s = .next
      (((s.outFrom 0 0 (List.zipWith (decorrelateLeft s.frame.chasgn) as bs)).outFrom 1 0
        ((List.zipWith (decorrelateRight s.frame.chasgn) as bs).take i)).errorEntry 0x8 (.bitDepthOverflow 1 i)))

/-- R138: each reversal gives back the channels it was made from: left/side, side/right, and mid/side with the mid
value's low bit lost (L and R any 32-bit samples). -/
def Obligations.DecorrelationRestoresTheChannels : Prop :=
  ∀ l r : Int, -(2 ^ 31) ≤ l → l < 2 ^ 31 → -(2 ^ 31) ≤ r → r < 2 ^ 31 →
    decorrelateLeft 8 (BitVec.ofInt 64 l) (BitVec.ofInt 64 (l - r)) = BitVec.ofInt 64 l ∧
    decorrelateRight 8 (BitVec.ofInt 64 l) (BitVec.ofInt 64 (l - r)) = BitVec.ofInt 64 r ∧
    decorrelateLeft 9 (BitVec.ofInt 64 (l - r)) (BitVec.ofInt 64 r) = BitVec.ofInt 64 l ∧
    decorrelateRight 9 (BitVec.ofInt 64 (l - r)) (BitVec.ofInt 64 r) = BitVec.ofInt 64 r ∧
    decorrelateLeft 10 (BitVec.ofInt 64 ((l + r).fdiv 2)) (BitVec.ofInt 64 (l - r)) = BitVec.ofInt 64 l ∧
    decorrelateRight 10 (BitVec.ofInt 64 ((l + r).fdiv 2)) (BitVec.ofInt 64 (l - r)) = BitVec.ofInt 64 r

/-! ### FEND -/

/-- R142, R143, R144, R145: FEND reads the padding and the CRC field, and on a match writes the size and closes the
frame. -/
def Obligations.FendClosesTheFrame : Prop :=
  ∀ (s : State) (pad : Nat) (rest : List Bool), s.ready .body → pad = (8 - s.input.bitPos.toNat % 8) % 8 →
    s.input.bits = List.replicate pad false ++ natBits 16 (s.input.advanceBy pad).crc16.toNat ++ rest →
    ((s.input.advanceBy (pad + 16)).bitPos - s.fsbit).toNat / 8 ≤ 2 ^ 31 - 1 →
    exec .fend s = .next
      { s with
        input := s.input.advanceBy (pad + 16)
        fsize := BitVec.ofNat 32 (((s.input.advanceBy (pad + 16)).bitPos - s.fsbit).toNat / 8)
        mode := .idle
        flags := { s.flags with done := true } }

/-- R142, R143, R144, R145: what FEND reports, in order: a nonzero padding bit, then a CRC field other than the running
CRC-16 after the padding, then a frame of more than 2^31 − 1 bytes. -/
def Obligations.FendReportsPaddingThenCrcThenSize : Prop :=
  ∀ (s : State) (pad : Nat), s.ready .body → pad = (8 - s.input.bitPos.toNat % 8) % 8 →
    (pad ≤ s.input.bits.length → bitsValue (s.input.bits.take pad) ≠ 0 →
      exec .fend s = .next ({ s with input := s.input.advanceBy pad }.errorEntry 0x9 .invalidPadding)) ∧
    (pad + 16 ≤ s.input.bits.length → bitsValue (s.input.bits.take pad) = 0 →
      bitsValue ((s.input.bits.drop pad).take 16) ≠ (s.input.advanceBy pad).crc16.toNat →
      exec .fend s = .next ({ s with input := s.input.advanceBy (pad + 16) }.errorEntry 0x9 .crc16Mismatch)) ∧
    (pad + 16 ≤ s.input.bits.length → bitsValue (s.input.bits.take pad) = 0 →
      bitsValue ((s.input.bits.drop pad).take 16) = (s.input.advanceBy pad).crc16.toNat →
      2 ^ 31 - 1 < ((s.input.advanceBy (pad + 16)).bitPos - s.fsbit).toNat / 8 →
      exec .fend s = .next ({ s with input := s.input.advanceBy (pad + 16) }.errorEntry 0x9 .frameTooLarge))

/-! ### Frames: what a command leaves unchanged, whichever way it stops in a next state -/

/-- NOP and FCFG change the flags, the error latch, STATE and the command in progress, and nothing else. FSTART also
changes the bit input (not BUF and not the byte source), FSBIT and the valid tags; the caller's buffer, the
configuration, COEF, RDATA, FSIZE, CTRL and the SDATA latches stay. EOS stays, and REJ where the command runs (R97).
An FSTART that does not complete changes REJ at most (it is rejected), or it stays in progress with nothing changed.
`statusKept` says what becomes of DONE, REJ, the latch and STATE, here and in the frames below; that DONE is set together
with BUSY's fall is the model's choice (Assumption 23). -/
def Obligations.FrameControlFrame : Prop :=
  (∀ (s t : State) (i : Instr), (i = .nop ∨ i = .fcfg) → exec i s = .next t →
    t = { s with flags := t.flags, err := t.err, mode := t.mode, task := t.task, pace := t.pace } ∧
    t.flags.eos = s.flags.eos ∧ s.statusKept t (if i = .fcfg then [.body] else [])) ∧
  (∀ s t : State, exec .fstart s = .next t →
    t = { s with
          flags := t.flags, err := t.err, mode := t.mode, task := t.task, pace := t.pace, input := t.input,
          fsbit := t.fsbit, scratch0 := t.scratch0, scratch1 := t.scratch1, coefTag := t.coefTag } ∧
    t.input.buf = s.input.buf ∧ t.input.source = s.input.source ∧ t.flags.eos = s.flags.eos ∧
    (s.task = none → s.mode ≠ .fatal → t.flags.rej = s.flags.rej) ∧
    ((t = { s with flags := t.flags, task := t.task, pace := t.pace } ∧ t.flags.done = s.flags.done) ∨
     (s.task = none ∧ s.mode ≠ .fatal ∧ t.mode = .hdr ∧ t.task = none ∧ t.flags.done = true)))

/-- GETB and GETBS change RDATA and the bit input, FEND the bit input and FSIZE, each beside the flags, the error latch,
STATE and the command in progress. RDATA changes only when the command completes with a value (R31), EOS only when it
completes at a frame boundary, without one (R110), and FSIZE only when FEND, issued in BODY, completes and enters IDLE
(R42). No scratch entry, no output entry and no other register changes. -/
def Obligations.GetbAndFendFrame : Prop :=
  (∀ (s t : State) (n : Nat) (i : Instr), (i = .getb n ∨ i = .getbs n) → exec i s = .next t →
    t = { s with
          flags := t.flags, err := t.err, mode := t.mode, task := t.task, pace := t.pace, input := t.input,
          rdata := t.rdata } ∧
    s.statusKept t [.idle] ∧
    (t.rdata = s.rdata ∨
      (s.task = none ∧ t.task = none ∧ t.flags.done = true ∧ t.mode = s.mode ∧ t.flags.eos = s.flags.eos)) ∧
    (t.flags.eos = s.flags.eos ∨
      (s.task = none ∧ (s.mode = .idle ∨ s.mode = .hdr) ∧ t.mode = .idle ∧ t.task = none ∧ t.flags.done = true ∧
        t.rdata = s.rdata))) ∧
  (∀ s t : State, exec .fend s = .next t →
    t = { s with
          flags := t.flags, err := t.err, mode := t.mode, task := t.task, pace := t.pace, input := t.input,
          fsize := t.fsize } ∧
    t.flags.eos = s.flags.eos ∧ s.statusKept t [.idle] ∧
    (t.fsize = s.fsize ∨
      (s.task = none ∧ s.mode = .body ∧ t.mode = .idle ∧ t.task = none ∧ t.flags.done = true)))

/-- RESID changes the bit input and its own buffer at the indices ORDER to N − 1 (R124), beside the flags, the error
latch, STATE and the command in progress. -/
def Obligations.ResidFrame : Prop :=
  ∀ (s t : State) (b : Buf), exec (.resid b) s = .next t →
    t = { s with
          flags := t.flags, err := t.err, mode := t.mode, task := t.task, pace := t.pace, input := t.input,
          scratch0 := t.scratch0, scratch1 := t.scratch1 } ∧
    t.flags.eos = s.flags.eos ∧ s.statusKept t [] ∧
    ∀ (c : Buf) (i : Nat), (c ≠ b ∨ i < s.pcfg.order.toNat ∨ s.frame.blockSize ≤ i) →
      t.readScratch c i = s.readScratch c i

/-- RECON and WSHL change their own buffer below N (R64), RECON not below ORDER (R131); RECON also clears the
coefficient tags. No stream bit is consumed and no output entry written. -/
def Obligations.ReconAndWshlFrame : Prop :=
  (∀ (s t : State) (b : Buf), exec (.recon b) s = .next t →
    t = { s with
          flags := t.flags, err := t.err, mode := t.mode, task := t.task, pace := t.pace,
          scratch0 := t.scratch0, scratch1 := t.scratch1, coefTag := t.coefTag } ∧
    t.flags.eos = s.flags.eos ∧ s.statusKept t [] ∧
    ∀ (c : Buf) (i : Nat), (c ≠ b ∨ i < s.pcfg.order.toNat ∨ s.frame.blockSize ≤ i) →
      t.readScratch c i = s.readScratch c i) ∧
  (∀ (s t : State) (b : Buf) (k : Nat), exec (.wshl b k) s = .next t →
    t = { s with
          flags := t.flags, err := t.err, mode := t.mode, task := t.task, pace := t.pace,
          scratch0 := t.scratch0, scratch1 := t.scratch1 } ∧
    t.flags.eos = s.flags.eos ∧ s.statusKept t [] ∧
    ∀ (c : Buf) (i : Nat), (c ≠ b ∨ s.frame.blockSize ≤ i) → t.readScratch c i = s.readScratch c i)

/-- EMIT and DECOR change the caller's buffer inside the window of the channels they write (R65), beside the flags, the
error latch, STATE and the command in progress; scratch stays (R136, R140). -/
def Obligations.EmitAndDecorFrame : Prop :=
  (∀ (s t : State) (b : Buf) (ch : Nat), exec (.emit b ch) s = .next t →
    t = { s with
          flags := t.flags, err := t.err, mode := t.mode, task := t.task, pace := t.pace, out := t.out } ∧
    t.flags.eos = s.flags.eos ∧ s.statusKept t [] ∧
    ∀ key : Nat, (∀ i : Nat, i < s.frame.blockSize → key ≠ outKey ch (s.frame.outoff.toNat + i)) →
      t.out.read key = s.out.read key) ∧
  (∀ s t : State, exec .decor s = .next t →
    t = { s with
          flags := t.flags, err := t.err, mode := t.mode, task := t.task, pace := t.pace, out := t.out } ∧
    t.flags.eos = s.flags.eos ∧ s.statusKept t [] ∧
    ∀ key : Nat, (∀ ch i : Nat, ch < 2 → i < s.frame.blockSize → key ≠ outKey ch (s.frame.outoff.toNat + i)) →
      t.out.read key = s.out.read key)

/-! ### Host accesses, reset, interrupt -/

/-- R52: the reset values, and that the caller's buffer and the byte source are not reset. -/
def Obligations.ResetValues : Prop :=
  State.reset.mode = .idle ∧ State.reset.busy = false ∧ State.reset.registerWord .status = 0 ∧
    State.reset.registerWord .ctrl = 0 ∧ State.reset.registerWord .errcode = 0 ∧
    State.reset.registerWord .errpos = 0 ∧ State.reset.registerWord .erridx = 0xFFFFFFFF ∧
    State.reset.registerWord .rdata = 0 ∧ State.reset.registerWord .blksize = 0 ∧
    State.reset.registerWord .fmt = 0 ∧ State.reset.registerWord .outoff = 0 ∧
    State.reset.registerWord .outlen = 0 ∧ State.reset.registerWord .outch = 0 ∧
    State.reset.registerWord .pcfg = 0 ∧ State.reset.registerWord .saddr = 0 ∧ State.reset.whi = 0 ∧
    State.reset.rhi = 0 ∧ State.reset.input.crc16 = 0 ∧ State.reset.input.crc8 = 0 ∧
    State.reset.input.bitPos = 0 ∧ State.reset.fsbit = 0 ∧ State.reset.input.bufLeft = 0 ∧
    State.reset.registerWord .fsize = 0 ∧ State.reset.registerWord .id = 0x52444231 ∧ State.reset.irq = false ∧
    (∀ j : Fin 32, State.reset.coefAt j = 0 ∧ State.reset.coefValid j = false) ∧
    (∀ (b : Buf) (i : Nat), State.reset.readScratch b i = none) ∧
    (∀ s : State, s.resetBlock.out = s.out ∧ s.resetBlock.input.source = s.input.source)

/-- R166, R167: a write to CTRL with bit 31 = 1 has the effect of the hard reset, BUSY or not; the byte source and the
caller's buffer are not reset (R168). The model's own choices in it: that BUF, which R52 leaves unspecified, is 0
(Assumption 8), and that the record of the outside world (events, pace, hostData, draws) is kept (Assumption 6). -/
def Obligations.SoftResetEqualsHardReset : Prop :=
  ∀ (s : State) (e : Event) (rest : List Event), s.events = e :: rest →
    (e = .hardReset ∨ ∃ v : Word, v.getLsbD 31 = true ∧ e = .write 0x004 v) →
    step s = .next
      { State.reset with
        input := { State.reset.input with source := s.input.source }
        out := s.out
        events := rest
        pace := s.pace
        hostData := s.hostData
        draws := s.draws }

/-- R56: while BUSY a host write to any register other than CTRL and STATUS, CMD among them, sets REJ and does nothing
else; a write to CTRL (R25; bit 31 set is SoftResetEqualsHardReset) or STATUS (R26) takes effect. R57: a host read of ID,
CTRL or STATUS returns its value and a read of any other register returns a free value; neither has a side effect on the
block. The model's reading: that a write to a read-only register sets REJ and a read of
CMD is a free value (Assumption 12, DEDUCED). The form of the free value is Assumption 5 (DESIGN CHOICE). -/
def Obligations.HostAccessesWhileBusy : Prop :=
  ∀ (s : State) (off : BitVec 12) (v : Word) (r : Reg), s.task ≠ none → off.toNat % 4 = 0 → registerAt off = some r →
    (off = 0x000 ∨ off = 0x004 ∨ off = 0x008 →
      perform (.read off) s = .next { s with hostData := s.registerWord r }) ∧
    (off ≠ 0x000 → off ≠ 0x004 → off ≠ 0x008 →
      perform (.read off) s = .next { s with hostData := Config.freeWord s.draws, draws := s.draws + 1 }) ∧
    (off ≠ 0x004 → off ≠ 0x008 →
      perform (.write off v) s = .next { s with flags := { s.flags with rej := true } }) ∧
    (off = 0x004 → v.getLsbD 31 = false →
      perform (.write off v) s =
        .next { s with ctrl := { ieDone := v.getLsbD 0, ieErr := v.getLsbD 1, ieEos := v.getLsbD 2 } }) ∧
    (off = 0x008 →
      perform (.write off v) s =
        .next { s with
                flags :=
                  { done := s.flags.done && !v.getLsbD 4
                    eos := s.flags.eos && !v.getLsbD 6
                    rej := s.flags.rej && !v.getLsbD 7 } })

/-- R58: BLKSIZE, FMT, OUTOFF, OUTLEN and OUTCH reject writes in BODY and, while BUSY = 0, take them in every other
state. -/
def Obligations.FrameRegistersAreLockedInBody : Prop :=
  ∀ (s : State) (v : Word),
    (s.mode = .body →
      ∀ off : BitVec 12, off = 0x020 ∨ off = 0x024 ∨ off = 0x028 ∨ off = 0x02C ∨ off = 0x030 →
        perform (.write off v) s = .next { s with flags := { s.flags with rej := true } }) ∧
    (s.mode ≠ .body → s.task = none →
      perform (.write 0x020 v) s = .next { s with frame := { s.frame with blksize := v.setWidth 17 } } ∧
      perform (.write 0x024 v) s =
        .next { s with frame := { s.frame with chasgn := v.setWidth 4, depth := v.extractLsb' 8 6 } } ∧
      perform (.write 0x028 v) s = .next { s with frame := { s.frame with outoff := v } } ∧
      perform (.write 0x02C v) s = .next { s with frame := { s.frame with outlen := v } } ∧
      perform (.write 0x030 v) s = .next { s with frame := { s.frame with outch := v.setWidth 4 } })

/-- R54: an access of another width, or at an offset that is not a multiple of 4, is refused (Assumption 15). R23: a
reserved offset reads 0 and ignores writes and does not set REJ; that it does so BUSY or not is the model's reading of
R23 beside R56 and R57 (Assumption 12, DEDUCED). -/
def Obligations.UnsupportedAccessesAndReservedOffsets : Prop :=
  ∀ (s : State) (off : BitVec 12) (v : Word),
    perform (.narrow off) s = .refused (.busError off) ∧
    (off.toNat % 4 ≠ 0 →
      perform (.write off v) s = .refused (.busError off) ∧ perform (.read off) s = .refused (.busError off)) ∧
    (off.toNat % 4 = 0 → 0x054 < off.toNat → (off.toNat < 0x080 ∨ 0x0FC < off.toNat) →
      perform (.write off v) s = .next s ∧ perform (.read off) s = .next { s with hostData := 0 })

/-- R59: the scratch access protocol, with BUSY = 0. -/
def Obligations.ScratchPortProtocol : Prop :=
  ∀ (s : State) (v : Word), s.task = none →
    perform (.write 0x040 v) s = .next { s with whi := v } ∧
    perform (.write 0x03C v) s =
      .next { s.writeScratch s.saddr.sel s.saddr.idx.toNat (s.whi ++ v) with
              saddr := { s.saddr with idx := s.saddr.idx + 1 } } ∧
    (∀ x : Sample, s.readScratch s.saddr.sel s.saddr.idx.toNat = some x →
      perform (.read 0x03C) s = .next { s with rhi := x.extractLsb' 32 32, hostData := x.setWidth 32 }) ∧
    (s.readScratch s.saddr.sel s.saddr.idx.toNat = none →
      perform (.read 0x03C) s = .fault (.unwrittenScratch s.saddr.sel s.saddr.idx.toNat)) ∧
    perform (.read 0x040) s =
      .next { s with saddr := { s.saddr with idx := s.saddr.idx + 1 }, hostData := s.rhi }

/-- R92: WRS then RDS of the same entry gives the value back, low word first. -/
def Obligations.RdsReturnsWhatWrsWrote : Prop :=
  ∀ (s : State) (b : Buf) (i : Nat) (v : Sample) (rest : List Event), s.task = none → i < 65536 →
    s.events = wrs b i v ++ rds b i ++ rest →
    ∃ t u : State, Host.Core.run Sys2Proof.core 5 s = .next t ∧ t.hostData = v.setWidth 32 ∧
      step t = .next u ∧ u.hostData = v.extractLsb' 32 32 ∧ u.readScratch b i = some v ∧ u.events = rest

/-- R26: the bits of STATUS, the effect of a host write to it, BUSY or not, and its reset value. -/
def Obligations.StatusBitsAndWriteOneToClear : Prop :=
  ∀ (s : State) (v : Word),
    s.statusWord.getLsbD 0 = s.busy ∧
    (s.statusWord.extractLsb' 1 3).toNat =
      (match s.mode with | .idle => 0 | .hdr => 1 | .body => 2 | .error => 3 | .fatal => 4) ∧
    s.statusWord.getLsbD 4 = s.flags.done ∧
    s.statusWord.getLsbD 5 = decide (s.mode = .error ∨ s.mode = .fatal) ∧
    s.statusWord.getLsbD 6 = s.flags.eos ∧ s.statusWord.getLsbD 7 = s.flags.rej ∧
    s.statusWord.getLsbD 8 = s.waitIn ∧ s.statusWord.toNat < 512 ∧
    perform (.write 0x008 v) s =
      .next { s with
              flags :=
                { done := s.flags.done && !v.getLsbD 4
                  eos := s.flags.eos && !v.getLsbD 6
                  rej := s.flags.rej && !v.getLsbD 7 } } ∧
    State.reset.statusWord = 0

/-- R21, R22, R24 to R43, with BUSY = 0. A host read at a register's offset returns the register and has no effect (R60;
SDATA is ScratchPortProtocol). A host write to a read-only register is ignored. A host write to a writable register
changes that register alone, and it then reads as the written word with its reserved bits 0: CTRL (bit 31 clear), PCFG,
SADDR and COEF in every state (in ERROR and FATAL the model follows R154 against R37 and R43: Assumption 13, DEDUCED),
the frame configuration outside BODY (R58). -/
def Obligations.HostReadsAndWritesOfEveryRegister : Prop :=
  ∀ (s : State) (v : Word), s.task = none →
    (∀ (off : BitVec 12) (w : Word),
      (off = 0x000 ∧ w = 0x52444231) ∨
      (off = 0x004 ∧ w = BitVec.ofNat 32
        (s.ctrl.ieDone.toNat + 2 * s.ctrl.ieErr.toNat + 4 * s.ctrl.ieEos.toNat)) ∨
      (off = 0x008 ∧ w = s.statusWord) ∨
      (off = 0x00C ∧ w = BitVec.ofNat 32 (s.err.code.toNat + 2 ^ 8 * s.err.op.toNat + 2 ^ 12 * s.err.ch.toNat)) ∨
      (off = 0x010 ∧ w = s.err.pos) ∨ (off = 0x014 ∧ w = s.err.idx) ∨ (off = 0x018 ∧ w = 0) ∨
      (off = 0x01C ∧ w = s.rdata) ∨ (off = 0x020 ∧ w = s.frame.blksize.setWidth 32) ∨
      (off = 0x024 ∧ w = BitVec.ofNat 32 (s.frame.chasgn.toNat + 2 ^ 8 * s.frame.depth.toNat)) ∨
      (off = 0x028 ∧ w = s.frame.outoff) ∨ (off = 0x02C ∧ w = s.frame.outlen) ∨
      (off = 0x030 ∧ w = s.frame.outch.setWidth 32) ∨
      (off = 0x034 ∧ w = BitVec.ofNat 32
        ((if s.pcfg.kind = .lpc then 1 else 0) + 2 ^ 8 * s.pcfg.order.toNat + 2 ^ 16 * s.pcfg.shift.toNat)) ∨
      (off = 0x038 ∧ w = BitVec.ofNat 32 (s.saddr.idx.toNat + (if s.saddr.sel = .s1 then 2 ^ 16 else 0))) ∨
      (off = 0x044 ∧ w = s.input.crc16.setWidth 32) ∨ (off = 0x048 ∧ w = s.input.crc8.setWidth 32) ∨
      (off = 0x04C ∧ w = s.input.bitPos.setWidth 32) ∨ (off = 0x050 ∧ w = (s.input.bitPos >>> 32).setWidth 32) ∨
      (off = 0x054 ∧ w = s.fsize) ∨ (∃ j : Fin 32, off = BitVec.ofNat 12 (0x080 + 4 * j) ∧ w = s.coef[j]) →
      perform (.read off) s = .next { s with hostData := w }) ∧
    (∀ off : BitVec 12,
      off ∈ ([0x000, 0x00C, 0x010, 0x014, 0x01C, 0x044, 0x048, 0x04C, 0x050, 0x054] : List (BitVec 12)) →
      perform (.write off v) s = .next s) ∧
    (v.getLsbD 31 = false →
      ∃ u : State, perform (.write 0x004 v) s = .next u ∧ u = { s with ctrl := u.ctrl } ∧
        perform (.read 0x004) u = .next { u with hostData := v &&& 0x00000007 }) ∧
    (∃ u : State, perform (.write 0x034 v) s = .next u ∧ u = { s with pcfg := u.pcfg } ∧
      perform (.read 0x034) u = .next { u with hostData := v &&& 0x001F3F01 }) ∧
    (∃ u : State, perform (.write 0x038 v) s = .next u ∧ u = { s with saddr := u.saddr } ∧
      perform (.read 0x038) u = .next { u with hostData := v &&& 0x0001FFFF }) ∧
    (∀ j : Fin 32,
      perform (.write (BitVec.ofNat 12 (0x080 + 4 * j)) v) s =
        .next { s with coef := s.coef.set j v, coefTag := s.coefTag.set j true }) ∧
    (s.mode ≠ .body →
      ∀ (off : BitVec 12) (mask : Word),
        (off = 0x020 ∧ mask = 0x0001FFFF) ∨ (off = 0x024 ∧ mask = 0x00003F0F) ∨ (off = 0x028 ∧ mask = 0xFFFFFFFF) ∨
        (off = 0x02C ∧ mask = 0xFFFFFFFF) ∨ (off = 0x030 ∧ mask = 0x0000000F) →
        ∃ u : State, perform (.write off v) s = .next u ∧ u = { s with frame := u.frame } ∧
          perform (.read off) u = .next { u with hostData := v &&& mask })

/-- R157: IRQ is the level of the enabled sources. -/
def Obligations.IrqIsTheEnabledSources : Prop :=
  ∀ s : State,
    s.irq = true ↔
      (s.ctrl.ieDone = true ∧ s.flags.done = true) ∨
      (s.ctrl.ieErr = true ∧ (s.mode = .error ∨ s.mode = .fatal)) ∨
      (s.ctrl.ieEos = true ∧ s.flags.eos = true)

/-! ### The whole machine -/

/-- `State.Inv` holds at reset. -/
def Obligations.ResetMeetsTheInvariant : Prop := State.reset.Inv

/-- R18, R48, R58, R77, R153: every step keeps `State.Inv`. -/
def Obligations.EveryStepKeepsTheInvariant : Prop :=
  ∀ s t : State, s.Inv → step s = .next t → t.Inv

/-- Assumption 2, R68(c): where a command pauses makes no difference to what it does: running it for `m` and then for
`n` sequencer steps is running it for `m + n`. -/
def Obligations.PausingDoesNotChangeACommand : Prop :=
  ∀ (m n : Nat) (t : Task) (s : State),
    drive (m + n) t s =
      match drive m t s with
      | .next u =>
        match u.task with
        | some t' => drive n t' u
        | none => .next u
      | .fault f => .fault f
      | .refused r => .refused r

/-- R179: an undisturbed command whose byte requests are all answered completes or raises an error: it does not stay
BUSY. -/
def Obligations.AnsweredCommandsStop : Prop :=
  ∀ (i : Instr) (s t : State), s.task = none → s.pace = [] → s.input.source.ended = true → exec i s = .next t →
    t.task = none
end

