-- ==== Sys2Proof/Laws/State.lean ====
section
/-! SUPPORT. What each named update of the state does to each field: one lemma per field per update, so that no later
proof unfolds a record update. -/

namespace Sys2Proof.Machine

/-! ### complete -/

@[simp] theorem State.complete_mode (s : State) : (s.complete).mode = s.mode := rfl
@[simp] theorem State.complete_task (s : State) : (s.complete).task = none := rfl
@[simp] theorem State.complete_flags (s : State) : (s.complete).flags = { s.flags with done := true } := rfl
@[simp] theorem State.complete_ctrl (s : State) : (s.complete).ctrl = s.ctrl := rfl
@[simp] theorem State.complete_err (s : State) : (s.complete).err = s.err := rfl
@[simp] theorem State.complete_rdata (s : State) : (s.complete).rdata = s.rdata := rfl
@[simp] theorem State.complete_frame (s : State) : (s.complete).frame = s.frame := rfl
@[simp] theorem State.complete_pcfg (s : State) : (s.complete).pcfg = s.pcfg := rfl
@[simp] theorem State.complete_coef (s : State) : (s.complete).coef = s.coef := rfl
@[simp] theorem State.complete_coefTag (s : State) : (s.complete).coefTag = s.coefTag := rfl
@[simp] theorem State.complete_saddr (s : State) : (s.complete).saddr = s.saddr := rfl
@[simp] theorem State.complete_whi (s : State) : (s.complete).whi = s.whi := rfl
@[simp] theorem State.complete_rhi (s : State) : (s.complete).rhi = s.rhi := rfl
@[simp] theorem State.complete_input (s : State) : (s.complete).input = s.input := rfl
@[simp] theorem State.complete_fsbit (s : State) : (s.complete).fsbit = s.fsbit := rfl
@[simp] theorem State.complete_fsize (s : State) : (s.complete).fsize = s.fsize := rfl
@[simp] theorem State.complete_scratch0 (s : State) : (s.complete).scratch0 = s.scratch0 := rfl
@[simp] theorem State.complete_scratch1 (s : State) : (s.complete).scratch1 = s.scratch1 := rfl
@[simp] theorem State.complete_out (s : State) : (s.complete).out = s.out := rfl
@[simp] theorem State.complete_events (s : State) : (s.complete).events = s.events := rfl
@[simp] theorem State.complete_pace (s : State) : (s.complete).pace = s.pace := rfl
@[simp] theorem State.complete_hostData (s : State) : (s.complete).hostData = s.hostData := rfl
@[simp] theorem State.complete_draws (s : State) : (s.complete).draws = s.draws := rfl

/-! ### reject -/

@[simp] theorem State.reject_mode (s : State) : (s.reject).mode = s.mode := rfl
@[simp] theorem State.reject_task (s : State) : (s.reject).task = s.task := rfl
@[simp] theorem State.reject_flags (s : State) : (s.reject).flags = { s.flags with rej := true } := rfl
@[simp] theorem State.reject_ctrl (s : State) : (s.reject).ctrl = s.ctrl := rfl
@[simp] theorem State.reject_err (s : State) : (s.reject).err = s.err := rfl
@[simp] theorem State.reject_rdata (s : State) : (s.reject).rdata = s.rdata := rfl
@[simp] theorem State.reject_frame (s : State) : (s.reject).frame = s.frame := rfl
@[simp] theorem State.reject_pcfg (s : State) : (s.reject).pcfg = s.pcfg := rfl
@[simp] theorem State.reject_coef (s : State) : (s.reject).coef = s.coef := rfl
@[simp] theorem State.reject_coefTag (s : State) : (s.reject).coefTag = s.coefTag := rfl
@[simp] theorem State.reject_saddr (s : State) : (s.reject).saddr = s.saddr := rfl
@[simp] theorem State.reject_whi (s : State) : (s.reject).whi = s.whi := rfl
@[simp] theorem State.reject_rhi (s : State) : (s.reject).rhi = s.rhi := rfl
@[simp] theorem State.reject_input (s : State) : (s.reject).input = s.input := rfl
@[simp] theorem State.reject_fsbit (s : State) : (s.reject).fsbit = s.fsbit := rfl
@[simp] theorem State.reject_fsize (s : State) : (s.reject).fsize = s.fsize := rfl
@[simp] theorem State.reject_scratch0 (s : State) : (s.reject).scratch0 = s.scratch0 := rfl
@[simp] theorem State.reject_scratch1 (s : State) : (s.reject).scratch1 = s.scratch1 := rfl
@[simp] theorem State.reject_out (s : State) : (s.reject).out = s.out := rfl
@[simp] theorem State.reject_events (s : State) : (s.reject).events = s.events := rfl
@[simp] theorem State.reject_pace (s : State) : (s.reject).pace = s.pace := rfl
@[simp] theorem State.reject_hostData (s : State) : (s.reject).hostData = s.hostData := rfl
@[simp] theorem State.reject_draws (s : State) : (s.reject).draws = s.draws := rfl

/-! ### errorEntry -/

@[simp] theorem State.errorEntry_mode (s : State) (op : BitVec 4) (e : RdbError) :
    (s.errorEntry op e).mode = e.target := rfl
@[simp] theorem State.errorEntry_task (s : State) (op : BitVec 4) (e : RdbError) :
    (s.errorEntry op e).task = none := rfl
@[simp] theorem State.errorEntry_flags (s : State) (op : BitVec 4) (e : RdbError) :
    (s.errorEntry op e).flags = s.flags := rfl
@[simp] theorem State.errorEntry_ctrl (s : State) (op : BitVec 4) (e : RdbError) :
    (s.errorEntry op e).ctrl = s.ctrl := rfl
@[simp] theorem State.errorEntry_err (s : State) (op : BitVec 4) (e : RdbError) :
    (s.errorEntry op e).err = { code := e.code, op := op, ch := e.channel, pos := (s.input.bitPos - s.fsbit).setWidth 32, idx := e.index } := rfl
@[simp] theorem State.errorEntry_rdata (s : State) (op : BitVec 4) (e : RdbError) :
    (s.errorEntry op e).rdata = s.rdata := rfl
@[simp] theorem State.errorEntry_frame (s : State) (op : BitVec 4) (e : RdbError) :
    (s.errorEntry op e).frame = s.frame := rfl
@[simp] theorem State.errorEntry_pcfg (s : State) (op : BitVec 4) (e : RdbError) :
    (s.errorEntry op e).pcfg = s.pcfg := rfl
@[simp] theorem State.errorEntry_coef (s : State) (op : BitVec 4) (e : RdbError) :
    (s.errorEntry op e).coef = s.coef := rfl
@[simp] theorem State.errorEntry_coefTag (s : State) (op : BitVec 4) (e : RdbError) :
    (s.errorEntry op e).coefTag = s.coefTag := rfl
@[simp] theorem State.errorEntry_saddr (s : State) (op : BitVec 4) (e : RdbError) :
    (s.errorEntry op e).saddr = s.saddr := rfl
@[simp] theorem State.errorEntry_whi (s : State) (op : BitVec 4) (e : RdbError) : (s.errorEntry op e).whi = s.whi := rfl
@[simp] theorem State.errorEntry_rhi (s : State) (op : BitVec 4) (e : RdbError) : (s.errorEntry op e).rhi = s.rhi := rfl
@[simp] theorem State.errorEntry_input (s : State) (op : BitVec 4) (e : RdbError) :
    (s.errorEntry op e).input = s.input := rfl
@[simp] theorem State.errorEntry_fsbit (s : State) (op : BitVec 4) (e : RdbError) :
    (s.errorEntry op e).fsbit = s.fsbit := rfl
@[simp] theorem State.errorEntry_fsize (s : State) (op : BitVec 4) (e : RdbError) :
    (s.errorEntry op e).fsize = s.fsize := rfl
@[simp] theorem State.errorEntry_scratch0 (s : State) (op : BitVec 4) (e : RdbError) :
    (s.errorEntry op e).scratch0 = s.scratch0 := rfl
@[simp] theorem State.errorEntry_scratch1 (s : State) (op : BitVec 4) (e : RdbError) :
    (s.errorEntry op e).scratch1 = s.scratch1 := rfl
@[simp] theorem State.errorEntry_out (s : State) (op : BitVec 4) (e : RdbError) : (s.errorEntry op e).out = s.out := rfl
@[simp] theorem State.errorEntry_events (s : State) (op : BitVec 4) (e : RdbError) :
    (s.errorEntry op e).events = s.events := rfl
@[simp] theorem State.errorEntry_pace (s : State) (op : BitVec 4) (e : RdbError) :
    (s.errorEntry op e).pace = s.pace := rfl
@[simp] theorem State.errorEntry_hostData (s : State) (op : BitVec 4) (e : RdbError) :
    (s.errorEntry op e).hostData = s.hostData := rfl
@[simp] theorem State.errorEntry_draws (s : State) (op : BitVec 4) (e : RdbError) :
    (s.errorEntry op e).draws = s.draws := rfl

/-! ### noMoreFrames -/

@[simp] theorem State.noMoreFrames_mode (s : State) : (s.noMoreFrames).mode = .idle := rfl
@[simp] theorem State.noMoreFrames_task (s : State) : (s.noMoreFrames).task = s.task := rfl
@[simp] theorem State.noMoreFrames_flags (s : State) : (s.noMoreFrames).flags = { s.flags with eos := true } := rfl
@[simp] theorem State.noMoreFrames_ctrl (s : State) : (s.noMoreFrames).ctrl = s.ctrl := rfl
@[simp] theorem State.noMoreFrames_err (s : State) : (s.noMoreFrames).err = s.err := rfl
@[simp] theorem State.noMoreFrames_rdata (s : State) : (s.noMoreFrames).rdata = s.rdata := rfl
@[simp] theorem State.noMoreFrames_frame (s : State) : (s.noMoreFrames).frame = s.frame := rfl
@[simp] theorem State.noMoreFrames_pcfg (s : State) : (s.noMoreFrames).pcfg = s.pcfg := rfl
@[simp] theorem State.noMoreFrames_coef (s : State) : (s.noMoreFrames).coef = s.coef := rfl
@[simp] theorem State.noMoreFrames_coefTag (s : State) : (s.noMoreFrames).coefTag = s.coefTag := rfl
@[simp] theorem State.noMoreFrames_saddr (s : State) : (s.noMoreFrames).saddr = s.saddr := rfl
@[simp] theorem State.noMoreFrames_whi (s : State) : (s.noMoreFrames).whi = s.whi := rfl
@[simp] theorem State.noMoreFrames_rhi (s : State) : (s.noMoreFrames).rhi = s.rhi := rfl
@[simp] theorem State.noMoreFrames_input (s : State) : (s.noMoreFrames).input = s.input := rfl
@[simp] theorem State.noMoreFrames_fsbit (s : State) : (s.noMoreFrames).fsbit = s.fsbit := rfl
@[simp] theorem State.noMoreFrames_fsize (s : State) : (s.noMoreFrames).fsize = s.fsize := rfl
@[simp] theorem State.noMoreFrames_scratch0 (s : State) : (s.noMoreFrames).scratch0 = s.scratch0 := rfl
@[simp] theorem State.noMoreFrames_scratch1 (s : State) : (s.noMoreFrames).scratch1 = s.scratch1 := rfl
@[simp] theorem State.noMoreFrames_out (s : State) : (s.noMoreFrames).out = s.out := rfl
@[simp] theorem State.noMoreFrames_events (s : State) : (s.noMoreFrames).events = s.events := rfl
@[simp] theorem State.noMoreFrames_pace (s : State) : (s.noMoreFrames).pace = s.pace := rfl
@[simp] theorem State.noMoreFrames_hostData (s : State) : (s.noMoreFrames).hostData = s.hostData := rfl
@[simp] theorem State.noMoreFrames_draws (s : State) : (s.noMoreFrames).draws = s.draws := rfl

/-! ### openFrame -/

@[simp] theorem State.openFrame_mode (s : State) : (s.openFrame).mode = .hdr := rfl
@[simp] theorem State.openFrame_task (s : State) : (s.openFrame).task = s.task := rfl
@[simp] theorem State.openFrame_flags (s : State) : (s.openFrame).flags = s.flags := rfl
@[simp] theorem State.openFrame_ctrl (s : State) : (s.openFrame).ctrl = s.ctrl := rfl
@[simp] theorem State.openFrame_err (s : State) :
    (s.openFrame).err = { code := 0, op := 0, ch := 0, pos := 0, idx := noIndex } := rfl
@[simp] theorem State.openFrame_rdata (s : State) : (s.openFrame).rdata = s.rdata := rfl
@[simp] theorem State.openFrame_frame (s : State) : (s.openFrame).frame = s.frame := rfl
@[simp] theorem State.openFrame_pcfg (s : State) : (s.openFrame).pcfg = s.pcfg := rfl
@[simp] theorem State.openFrame_coef (s : State) : (s.openFrame).coef = s.coef := rfl
@[simp] theorem State.openFrame_coefTag (s : State) : (s.openFrame).coefTag = Vector.replicate 32 false := rfl
@[simp] theorem State.openFrame_saddr (s : State) : (s.openFrame).saddr = s.saddr := rfl
@[simp] theorem State.openFrame_whi (s : State) : (s.openFrame).whi = s.whi := rfl
@[simp] theorem State.openFrame_rhi (s : State) : (s.openFrame).rhi = s.rhi := rfl
@[simp] theorem State.openFrame_input (s : State) :
    (s.openFrame).input = { s.input.align with crc16 := 0, crc8 := 0 } := rfl
@[simp] theorem State.openFrame_fsbit (s : State) : (s.openFrame).fsbit = s.input.align.bitPos := rfl
@[simp] theorem State.openFrame_fsize (s : State) : (s.openFrame).fsize = s.fsize := rfl
@[simp] theorem State.openFrame_scratch0 (s : State) : (s.openFrame).scratch0 = [] := rfl
@[simp] theorem State.openFrame_scratch1 (s : State) : (s.openFrame).scratch1 = [] := rfl
@[simp] theorem State.openFrame_out (s : State) : (s.openFrame).out = s.out := rfl
@[simp] theorem State.openFrame_events (s : State) : (s.openFrame).events = s.events := rfl
@[simp] theorem State.openFrame_pace (s : State) : (s.openFrame).pace = s.pace := rfl
@[simp] theorem State.openFrame_hostData (s : State) : (s.openFrame).hostData = s.hostData := rfl
@[simp] theorem State.openFrame_draws (s : State) : (s.openFrame).draws = s.draws := rfl

/-! ### resetBlock -/

@[simp] theorem State.resetBlock_mode (s : State) : (s.resetBlock).mode = State.reset.mode := rfl
@[simp] theorem State.resetBlock_task (s : State) : (s.resetBlock).task = State.reset.task := rfl
@[simp] theorem State.resetBlock_flags (s : State) : (s.resetBlock).flags = State.reset.flags := rfl
@[simp] theorem State.resetBlock_ctrl (s : State) : (s.resetBlock).ctrl = State.reset.ctrl := rfl
@[simp] theorem State.resetBlock_err (s : State) : (s.resetBlock).err = State.reset.err := rfl
@[simp] theorem State.resetBlock_rdata (s : State) : (s.resetBlock).rdata = State.reset.rdata := rfl
@[simp] theorem State.resetBlock_frame (s : State) : (s.resetBlock).frame = State.reset.frame := rfl
@[simp] theorem State.resetBlock_pcfg (s : State) : (s.resetBlock).pcfg = State.reset.pcfg := rfl
@[simp] theorem State.resetBlock_coef (s : State) : (s.resetBlock).coef = State.reset.coef := rfl
@[simp] theorem State.resetBlock_coefTag (s : State) : (s.resetBlock).coefTag = State.reset.coefTag := rfl
@[simp] theorem State.resetBlock_saddr (s : State) : (s.resetBlock).saddr = State.reset.saddr := rfl
@[simp] theorem State.resetBlock_whi (s : State) : (s.resetBlock).whi = State.reset.whi := rfl
@[simp] theorem State.resetBlock_rhi (s : State) : (s.resetBlock).rhi = State.reset.rhi := rfl
@[simp] theorem State.resetBlock_input (s : State) :
    (s.resetBlock).input = { State.reset.input with source := s.input.source } := rfl
@[simp] theorem State.resetBlock_fsbit (s : State) : (s.resetBlock).fsbit = State.reset.fsbit := rfl
@[simp] theorem State.resetBlock_fsize (s : State) : (s.resetBlock).fsize = State.reset.fsize := rfl
@[simp] theorem State.resetBlock_scratch0 (s : State) : (s.resetBlock).scratch0 = State.reset.scratch0 := rfl
@[simp] theorem State.resetBlock_scratch1 (s : State) : (s.resetBlock).scratch1 = State.reset.scratch1 := rfl
@[simp] theorem State.resetBlock_out (s : State) : (s.resetBlock).out = s.out := rfl
@[simp] theorem State.resetBlock_events (s : State) : (s.resetBlock).events = s.events := rfl
@[simp] theorem State.resetBlock_pace (s : State) : (s.resetBlock).pace = s.pace := rfl
@[simp] theorem State.resetBlock_hostData (s : State) : (s.resetBlock).hostData = s.hostData := rfl
@[simp] theorem State.resetBlock_draws (s : State) : (s.resetBlock).draws = s.draws := rfl

/-! ### outWrite -/

@[simp] theorem State.outWrite_mode (s : State) (ch i : Nat) (v : Word) : (s.outWrite ch i v).mode = s.mode := rfl
@[simp] theorem State.outWrite_task (s : State) (ch i : Nat) (v : Word) : (s.outWrite ch i v).task = s.task := rfl
@[simp] theorem State.outWrite_flags (s : State) (ch i : Nat) (v : Word) : (s.outWrite ch i v).flags = s.flags := rfl
@[simp] theorem State.outWrite_ctrl (s : State) (ch i : Nat) (v : Word) : (s.outWrite ch i v).ctrl = s.ctrl := rfl
@[simp] theorem State.outWrite_err (s : State) (ch i : Nat) (v : Word) : (s.outWrite ch i v).err = s.err := rfl
@[simp] theorem State.outWrite_rdata (s : State) (ch i : Nat) (v : Word) : (s.outWrite ch i v).rdata = s.rdata := rfl
@[simp] theorem State.outWrite_frame (s : State) (ch i : Nat) (v : Word) : (s.outWrite ch i v).frame = s.frame := rfl
@[simp] theorem State.outWrite_pcfg (s : State) (ch i : Nat) (v : Word) : (s.outWrite ch i v).pcfg = s.pcfg := rfl
@[simp] theorem State.outWrite_coef (s : State) (ch i : Nat) (v : Word) : (s.outWrite ch i v).coef = s.coef := rfl
@[simp] theorem State.outWrite_coefTag (s : State) (ch i : Nat) (v : Word) :
    (s.outWrite ch i v).coefTag = s.coefTag := rfl
@[simp] theorem State.outWrite_saddr (s : State) (ch i : Nat) (v : Word) : (s.outWrite ch i v).saddr = s.saddr := rfl
@[simp] theorem State.outWrite_whi (s : State) (ch i : Nat) (v : Word) : (s.outWrite ch i v).whi = s.whi := rfl
@[simp] theorem State.outWrite_rhi (s : State) (ch i : Nat) (v : Word) : (s.outWrite ch i v).rhi = s.rhi := rfl
@[simp] theorem State.outWrite_input (s : State) (ch i : Nat) (v : Word) : (s.outWrite ch i v).input = s.input := rfl
@[simp] theorem State.outWrite_fsbit (s : State) (ch i : Nat) (v : Word) : (s.outWrite ch i v).fsbit = s.fsbit := rfl
@[simp] theorem State.outWrite_fsize (s : State) (ch i : Nat) (v : Word) : (s.outWrite ch i v).fsize = s.fsize := rfl
@[simp] theorem State.outWrite_scratch0 (s : State) (ch i : Nat) (v : Word) :
    (s.outWrite ch i v).scratch0 = s.scratch0 := rfl
@[simp] theorem State.outWrite_scratch1 (s : State) (ch i : Nat) (v : Word) :
    (s.outWrite ch i v).scratch1 = s.scratch1 := rfl
@[simp] theorem State.outWrite_out (s : State) (ch i : Nat) (v : Word) :
    (s.outWrite ch i v).out = s.out.write (outKey ch i) v := rfl
@[simp] theorem State.outWrite_events (s : State) (ch i : Nat) (v : Word) : (s.outWrite ch i v).events = s.events := rfl
@[simp] theorem State.outWrite_pace (s : State) (ch i : Nat) (v : Word) : (s.outWrite ch i v).pace = s.pace := rfl
@[simp] theorem State.outWrite_hostData (s : State) (ch i : Nat) (v : Word) :
    (s.outWrite ch i v).hostData = s.hostData := rfl
@[simp] theorem State.outWrite_draws (s : State) (ch i : Nat) (v : Word) : (s.outWrite ch i v).draws = s.draws := rfl

/-! ### writeScratch -/

@[simp] theorem State.writeScratch_mode (s : State) (b : Buf) (i : Nat) (v : Sample) :
    (s.writeScratch b i v).mode = s.mode := by cases b <;> rfl
@[simp] theorem State.writeScratch_task (s : State) (b : Buf) (i : Nat) (v : Sample) :
    (s.writeScratch b i v).task = s.task := by cases b <;> rfl
@[simp] theorem State.writeScratch_flags (s : State) (b : Buf) (i : Nat) (v : Sample) :
    (s.writeScratch b i v).flags = s.flags := by cases b <;> rfl
@[simp] theorem State.writeScratch_ctrl (s : State) (b : Buf) (i : Nat) (v : Sample) :
    (s.writeScratch b i v).ctrl = s.ctrl := by cases b <;> rfl
@[simp] theorem State.writeScratch_err (s : State) (b : Buf) (i : Nat) (v : Sample) :
    (s.writeScratch b i v).err = s.err := by cases b <;> rfl
@[simp] theorem State.writeScratch_rdata (s : State) (b : Buf) (i : Nat) (v : Sample) :
    (s.writeScratch b i v).rdata = s.rdata := by cases b <;> rfl
@[simp] theorem State.writeScratch_frame (s : State) (b : Buf) (i : Nat) (v : Sample) :
    (s.writeScratch b i v).frame = s.frame := by cases b <;> rfl
@[simp] theorem State.writeScratch_pcfg (s : State) (b : Buf) (i : Nat) (v : Sample) :
    (s.writeScratch b i v).pcfg = s.pcfg := by cases b <;> rfl
@[simp] theorem State.writeScratch_coef (s : State) (b : Buf) (i : Nat) (v : Sample) :
    (s.writeScratch b i v).coef = s.coef := by cases b <;> rfl
@[simp] theorem State.writeScratch_coefTag (s : State) (b : Buf) (i : Nat) (v : Sample) :
    (s.writeScratch b i v).coefTag = s.coefTag := by cases b <;> rfl
@[simp] theorem State.writeScratch_saddr (s : State) (b : Buf) (i : Nat) (v : Sample) :
    (s.writeScratch b i v).saddr = s.saddr := by cases b <;> rfl
@[simp] theorem State.writeScratch_whi (s : State) (b : Buf) (i : Nat) (v : Sample) :
    (s.writeScratch b i v).whi = s.whi := by cases b <;> rfl
@[simp] theorem State.writeScratch_rhi (s : State) (b : Buf) (i : Nat) (v : Sample) :
    (s.writeScratch b i v).rhi = s.rhi := by cases b <;> rfl
@[simp] theorem State.writeScratch_input (s : State) (b : Buf) (i : Nat) (v : Sample) :
    (s.writeScratch b i v).input = s.input := by cases b <;> rfl
@[simp] theorem State.writeScratch_fsbit (s : State) (b : Buf) (i : Nat) (v : Sample) :
    (s.writeScratch b i v).fsbit = s.fsbit := by cases b <;> rfl
@[simp] theorem State.writeScratch_fsize (s : State) (b : Buf) (i : Nat) (v : Sample) :
    (s.writeScratch b i v).fsize = s.fsize := by cases b <;> rfl
@[simp] theorem State.writeScratch_out (s : State) (b : Buf) (i : Nat) (v : Sample) :
    (s.writeScratch b i v).out = s.out := by cases b <;> rfl
@[simp] theorem State.writeScratch_events (s : State) (b : Buf) (i : Nat) (v : Sample) :
    (s.writeScratch b i v).events = s.events := by cases b <;> rfl
@[simp] theorem State.writeScratch_pace (s : State) (b : Buf) (i : Nat) (v : Sample) :
    (s.writeScratch b i v).pace = s.pace := by cases b <;> rfl
@[simp] theorem State.writeScratch_hostData (s : State) (b : Buf) (i : Nat) (v : Sample) :
    (s.writeScratch b i v).hostData = s.hostData := by cases b <;> rfl
@[simp] theorem State.writeScratch_draws (s : State) (b : Buf) (i : Nat) (v : Sample) :
    (s.writeScratch b i v).draws = s.draws := by cases b <;> rfl

/-! ### withSource -/

@[simp] theorem State.withSource_mode (s : State) (p : ByteSource) : (s.withSource p).mode = s.mode := rfl
@[simp] theorem State.withSource_task (s : State) (p : ByteSource) : (s.withSource p).task = s.task := rfl
@[simp] theorem State.withSource_flags (s : State) (p : ByteSource) : (s.withSource p).flags = s.flags := rfl
@[simp] theorem State.withSource_ctrl (s : State) (p : ByteSource) : (s.withSource p).ctrl = s.ctrl := rfl
@[simp] theorem State.withSource_err (s : State) (p : ByteSource) : (s.withSource p).err = s.err := rfl
@[simp] theorem State.withSource_rdata (s : State) (p : ByteSource) : (s.withSource p).rdata = s.rdata := rfl
@[simp] theorem State.withSource_frame (s : State) (p : ByteSource) : (s.withSource p).frame = s.frame := rfl
@[simp] theorem State.withSource_pcfg (s : State) (p : ByteSource) : (s.withSource p).pcfg = s.pcfg := rfl
@[simp] theorem State.withSource_coef (s : State) (p : ByteSource) : (s.withSource p).coef = s.coef := rfl
@[simp] theorem State.withSource_coefTag (s : State) (p : ByteSource) : (s.withSource p).coefTag = s.coefTag := rfl
@[simp] theorem State.withSource_saddr (s : State) (p : ByteSource) : (s.withSource p).saddr = s.saddr := rfl
@[simp] theorem State.withSource_whi (s : State) (p : ByteSource) : (s.withSource p).whi = s.whi := rfl
@[simp] theorem State.withSource_rhi (s : State) (p : ByteSource) : (s.withSource p).rhi = s.rhi := rfl
@[simp] theorem State.withSource_input (s : State) (p : ByteSource) :
    (s.withSource p).input = { s.input with source := p } := rfl
@[simp] theorem State.withSource_fsbit (s : State) (p : ByteSource) : (s.withSource p).fsbit = s.fsbit := rfl
@[simp] theorem State.withSource_fsize (s : State) (p : ByteSource) : (s.withSource p).fsize = s.fsize := rfl
@[simp] theorem State.withSource_scratch0 (s : State) (p : ByteSource) : (s.withSource p).scratch0 = s.scratch0 := rfl
@[simp] theorem State.withSource_scratch1 (s : State) (p : ByteSource) : (s.withSource p).scratch1 = s.scratch1 := rfl
@[simp] theorem State.withSource_out (s : State) (p : ByteSource) : (s.withSource p).out = s.out := rfl
@[simp] theorem State.withSource_events (s : State) (p : ByteSource) : (s.withSource p).events = s.events := rfl
@[simp] theorem State.withSource_pace (s : State) (p : ByteSource) : (s.withSource p).pace = s.pace := rfl
@[simp] theorem State.withSource_hostData (s : State) (p : ByteSource) : (s.withSource p).hostData = s.hostData := rfl
@[simp] theorem State.withSource_draws (s : State) (p : ByteSource) : (s.withSource p).draws = s.draws := rfl

/-! ### drawFree -/

@[simp] theorem State.drawFree_mode (s : State) : (s.drawFree).mode = s.mode := rfl
@[simp] theorem State.drawFree_task (s : State) : (s.drawFree).task = s.task := rfl
@[simp] theorem State.drawFree_flags (s : State) : (s.drawFree).flags = s.flags := rfl
@[simp] theorem State.drawFree_ctrl (s : State) : (s.drawFree).ctrl = s.ctrl := rfl
@[simp] theorem State.drawFree_err (s : State) : (s.drawFree).err = s.err := rfl
@[simp] theorem State.drawFree_rdata (s : State) : (s.drawFree).rdata = s.rdata := rfl
@[simp] theorem State.drawFree_frame (s : State) : (s.drawFree).frame = s.frame := rfl
@[simp] theorem State.drawFree_pcfg (s : State) : (s.drawFree).pcfg = s.pcfg := rfl
@[simp] theorem State.drawFree_coef (s : State) : (s.drawFree).coef = s.coef := rfl
@[simp] theorem State.drawFree_coefTag (s : State) : (s.drawFree).coefTag = s.coefTag := rfl
@[simp] theorem State.drawFree_saddr (s : State) : (s.drawFree).saddr = s.saddr := rfl
@[simp] theorem State.drawFree_whi (s : State) : (s.drawFree).whi = s.whi := rfl
@[simp] theorem State.drawFree_rhi (s : State) : (s.drawFree).rhi = s.rhi := rfl
@[simp] theorem State.drawFree_input (s : State) : (s.drawFree).input = s.input := rfl
@[simp] theorem State.drawFree_fsbit (s : State) : (s.drawFree).fsbit = s.fsbit := rfl
@[simp] theorem State.drawFree_fsize (s : State) : (s.drawFree).fsize = s.fsize := rfl
@[simp] theorem State.drawFree_scratch0 (s : State) : (s.drawFree).scratch0 = s.scratch0 := rfl
@[simp] theorem State.drawFree_scratch1 (s : State) : (s.drawFree).scratch1 = s.scratch1 := rfl
@[simp] theorem State.drawFree_out (s : State) : (s.drawFree).out = s.out := rfl
@[simp] theorem State.drawFree_events (s : State) : (s.drawFree).events = s.events := rfl
@[simp] theorem State.drawFree_pace (s : State) : (s.drawFree).pace = s.pace := rfl
@[simp] theorem State.drawFree_hostData (s : State) : (s.drawFree).hostData = Config.freeWord s.draws := rfl
@[simp] theorem State.drawFree_draws (s : State) : (s.drawFree).draws = s.draws + 1 := rfl

/-! ### nextScratchIndex -/

@[simp] theorem State.nextScratchIndex_mode (s : State) : (s.nextScratchIndex).mode = s.mode := rfl
@[simp] theorem State.nextScratchIndex_task (s : State) : (s.nextScratchIndex).task = s.task := rfl
@[simp] theorem State.nextScratchIndex_flags (s : State) : (s.nextScratchIndex).flags = s.flags := rfl
@[simp] theorem State.nextScratchIndex_ctrl (s : State) : (s.nextScratchIndex).ctrl = s.ctrl := rfl
@[simp] theorem State.nextScratchIndex_err (s : State) : (s.nextScratchIndex).err = s.err := rfl
@[simp] theorem State.nextScratchIndex_rdata (s : State) : (s.nextScratchIndex).rdata = s.rdata := rfl
@[simp] theorem State.nextScratchIndex_frame (s : State) : (s.nextScratchIndex).frame = s.frame := rfl
@[simp] theorem State.nextScratchIndex_pcfg (s : State) : (s.nextScratchIndex).pcfg = s.pcfg := rfl
@[simp] theorem State.nextScratchIndex_coef (s : State) : (s.nextScratchIndex).coef = s.coef := rfl
@[simp] theorem State.nextScratchIndex_coefTag (s : State) : (s.nextScratchIndex).coefTag = s.coefTag := rfl
@[simp] theorem State.nextScratchIndex_saddr (s : State) :
    (s.nextScratchIndex).saddr = { s.saddr with idx := s.saddr.idx + 1 } := rfl
@[simp] theorem State.nextScratchIndex_whi (s : State) : (s.nextScratchIndex).whi = s.whi := rfl
@[simp] theorem State.nextScratchIndex_rhi (s : State) : (s.nextScratchIndex).rhi = s.rhi := rfl
@[simp] theorem State.nextScratchIndex_input (s : State) : (s.nextScratchIndex).input = s.input := rfl
@[simp] theorem State.nextScratchIndex_fsbit (s : State) : (s.nextScratchIndex).fsbit = s.fsbit := rfl
@[simp] theorem State.nextScratchIndex_fsize (s : State) : (s.nextScratchIndex).fsize = s.fsize := rfl
@[simp] theorem State.nextScratchIndex_scratch0 (s : State) : (s.nextScratchIndex).scratch0 = s.scratch0 := rfl
@[simp] theorem State.nextScratchIndex_scratch1 (s : State) : (s.nextScratchIndex).scratch1 = s.scratch1 := rfl
@[simp] theorem State.nextScratchIndex_out (s : State) : (s.nextScratchIndex).out = s.out := rfl
@[simp] theorem State.nextScratchIndex_events (s : State) : (s.nextScratchIndex).events = s.events := rfl
@[simp] theorem State.nextScratchIndex_pace (s : State) : (s.nextScratchIndex).pace = s.pace := rfl
@[simp] theorem State.nextScratchIndex_hostData (s : State) : (s.nextScratchIndex).hostData = s.hostData := rfl
@[simp] theorem State.nextScratchIndex_draws (s : State) : (s.nextScratchIndex).draws = s.draws := rfl

/-! ### writeCoef -/

@[simp] theorem State.writeCoef_mode (s : State) (j : Nat) (v : Word) : (s.writeCoef j v).mode = s.mode := rfl
@[simp] theorem State.writeCoef_task (s : State) (j : Nat) (v : Word) : (s.writeCoef j v).task = s.task := rfl
@[simp] theorem State.writeCoef_flags (s : State) (j : Nat) (v : Word) : (s.writeCoef j v).flags = s.flags := rfl
@[simp] theorem State.writeCoef_ctrl (s : State) (j : Nat) (v : Word) : (s.writeCoef j v).ctrl = s.ctrl := rfl
@[simp] theorem State.writeCoef_err (s : State) (j : Nat) (v : Word) : (s.writeCoef j v).err = s.err := rfl
@[simp] theorem State.writeCoef_rdata (s : State) (j : Nat) (v : Word) : (s.writeCoef j v).rdata = s.rdata := rfl
@[simp] theorem State.writeCoef_frame (s : State) (j : Nat) (v : Word) : (s.writeCoef j v).frame = s.frame := rfl
@[simp] theorem State.writeCoef_pcfg (s : State) (j : Nat) (v : Word) : (s.writeCoef j v).pcfg = s.pcfg := rfl
@[simp] theorem State.writeCoef_coef (s : State) (j : Nat) (v : Word) :
    (s.writeCoef j v).coef = s.coef.setIfInBounds j v := rfl
@[simp] theorem State.writeCoef_coefTag (s : State) (j : Nat) (v : Word) :
    (s.writeCoef j v).coefTag = s.coefTag.setIfInBounds j true := rfl
@[simp] theorem State.writeCoef_saddr (s : State) (j : Nat) (v : Word) : (s.writeCoef j v).saddr = s.saddr := rfl
@[simp] theorem State.writeCoef_whi (s : State) (j : Nat) (v : Word) : (s.writeCoef j v).whi = s.whi := rfl
@[simp] theorem State.writeCoef_rhi (s : State) (j : Nat) (v : Word) : (s.writeCoef j v).rhi = s.rhi := rfl
@[simp] theorem State.writeCoef_input (s : State) (j : Nat) (v : Word) : (s.writeCoef j v).input = s.input := rfl
@[simp] theorem State.writeCoef_fsbit (s : State) (j : Nat) (v : Word) : (s.writeCoef j v).fsbit = s.fsbit := rfl
@[simp] theorem State.writeCoef_fsize (s : State) (j : Nat) (v : Word) : (s.writeCoef j v).fsize = s.fsize := rfl
@[simp] theorem State.writeCoef_scratch0 (s : State) (j : Nat) (v : Word) :
    (s.writeCoef j v).scratch0 = s.scratch0 := rfl
@[simp] theorem State.writeCoef_scratch1 (s : State) (j : Nat) (v : Word) :
    (s.writeCoef j v).scratch1 = s.scratch1 := rfl
@[simp] theorem State.writeCoef_out (s : State) (j : Nat) (v : Word) : (s.writeCoef j v).out = s.out := rfl
@[simp] theorem State.writeCoef_events (s : State) (j : Nat) (v : Word) : (s.writeCoef j v).events = s.events := rfl
@[simp] theorem State.writeCoef_pace (s : State) (j : Nat) (v : Word) : (s.writeCoef j v).pace = s.pace := rfl
@[simp] theorem State.writeCoef_hostData (s : State) (j : Nat) (v : Word) :
    (s.writeCoef j v).hostData = s.hostData := rfl
@[simp] theorem State.writeCoef_draws (s : State) (j : Nat) (v : Word) : (s.writeCoef j v).draws = s.draws := rfl

/-! ### Scratch reads after a scratch write -/

@[simp] theorem State.writeScratch_scratch_same (s : State) (b : Buf) (i : Nat) (v : Sample) :
    (s.writeScratch b i v).scratch b = (s.scratch b).write i v := by cases b <;> rfl

theorem State.writeScratch_scratch_other (s : State) {b c : Buf} (h : c ≠ b) (i : Nat) (v : Sample) :
    (s.writeScratch b i v).scratch c = s.scratch c := by cases b <;> cases c <;> first | rfl | exact absurd rfl h

end Sys2Proof.Machine
end

