-- ==== Sys2Proof/Laws/Memory.lean ====
section
/-! SUPPORT. The laws of `Memory`: a read after a write, and the canonical form kept by every memory operation. -/

namespace Sys2Proof.Machine

variable {w : Nat}

/-- A memory is canonical when its tail is and its first key is below the next. -/
theorem Memory.wf_cons (k : Nat) (v : BitVec w) (m : Memory w) :
    Memory.wf ((k, v) :: m) = true ↔ Memory.wf m = true ∧ ∀ p, m.head? = some p → k < p.1 := by
  cases m with
  | nil => simp [Memory.wf]
  | cons q rest => simp [Memory.wf, and_comm]

/-- In a canonical memory no key below the first is listed. -/
theorem Memory.read_below_head {m : Memory w} (h : m.wf = true) {i : Nat} (hi : ∀ p, m.head? = some p → i < p.1) :
    m.read i = none := by
  induction m with
  | nil => rfl
  | cons q rest ih =>
    obtain ⟨k, v⟩ := q
    have hik : i < k := hi (k, v) rfl
    obtain ⟨hrest, hlt⟩ := (Memory.wf_cons k v rest).1 h
    rw [Memory.read, if_neg (by omega)]
    exact ih hrest fun p hp => lt_trans hik (hlt p hp)

/-- A read of the key just written gives the value written. -/
@[simp] theorem Memory.read_write_same (m : Memory w) (i : Nat) (v : BitVec w) : (m.write i v).read i = some v := by
  induction m with
  | nil => simp [Memory.write, Memory.read]
  | cons q rest ih =>
    obtain ⟨k, x⟩ := q
    simp only [Memory.write]
    split
    · simp [Memory.read]
    · split
      · simp [Memory.read]
      · rename_i _ hne
        simp [Memory.read, hne, ih]

/-- A write leaves every other key alone. -/
theorem Memory.read_write_other (m : Memory w) {i j : Nat} (h : j ≠ i) (v : BitVec w) :
    (m.write i v).read j = m.read j := by
  induction m with
  | nil => simp [Memory.write, Memory.read, h]
  | cons q rest ih =>
    obtain ⟨k, x⟩ := q
    simp only [Memory.write]
    split
    · simp [Memory.read, h]
    · split
      · rename_i _ heq
        simp [Memory.read, h, ← heq]
      · simp [Memory.read, ih]

/-- The first key after a write is the key written or the first key before. -/
theorem Memory.head_write (m : Memory w) (i : Nat) (v : BitVec w) (p : Nat × BitVec w)
    (h : (m.write i v).head? = some p) : p.1 = i ∨ ∃ q, m.head? = some q ∧ p.1 = q.1 := by
  cases m with
  | nil => simp [Memory.write] at h; simp [← h]
  | cons q rest =>
    obtain ⟨k, x⟩ := q
    simp only [Memory.write] at h
    split at h
    · simp at h; simp [← h]
    · split at h
      · simp at h; simp [← h]
      · simp at h; simp [← h]

/-- A write keeps the canonical form. -/
theorem Memory.write_wf {m : Memory w} (h : m.wf = true) (i : Nat) (v : BitVec w) : (m.write i v).wf = true := by
  induction m with
  | nil => rfl
  | cons q rest ih =>
    obtain ⟨k, x⟩ := q
    obtain ⟨hrest, hlt⟩ := (Memory.wf_cons k x rest).1 h
    simp only [Memory.write]
    split
    · rename_i hik
      exact (Memory.wf_cons i v _).2 ⟨h, by simp [hik]⟩
    · split
      · rename_i _ heq
        exact (Memory.wf_cons i v _).2 ⟨hrest, by rw [heq]; exact hlt⟩
      · rename_i hik hne
        refine (Memory.wf_cons k x _).2 ⟨ih hrest, fun p hp => ?_⟩
        obtain hp | ⟨q, hq, hp⟩ := Memory.head_write rest i v p hp
        · omega
        · rw [hp]; exact hlt q hq

/-- The spaces of the machine after reset are canonical. -/
theorem State.reset_memory_wf :
    State.reset.scratch0.wf = true ∧ State.reset.scratch1.wf = true ∧ State.reset.out.wf = true :=
  ⟨rfl, rfl, rfl⟩

/-- `writeScratch` keeps both scratch buffers canonical. -/
theorem State.writeScratch_wf {s : State} {b : Buf} (h : ∀ c, (s.scratch c).wf = true) (i : Nat) (v : Sample) (c : Buf) :
    ((s.writeScratch b i v).scratch c).wf = true := by
  by_cases hc : c = b
  · subst hc; simpa using Memory.write_wf (h c) i v
  · rw [State.writeScratch_scratch_other s hc]; exact h c

/-- What a scratch read gives after a scratch write. -/
theorem State.readScratch_writeScratch (s : State) (b c : Buf) (i j : Nat) (v : Sample) :
    (s.writeScratch b i v).readScratch c j = if c = b ∧ j = i then some v else s.readScratch c j := by
  unfold State.readScratch
  by_cases hc : c = b
  · subst hc
    by_cases hj : j = i
    · simp [hj]
    · simp [hj, Memory.read_write_other _ hj]
  · simp [hc, State.writeScratch_scratch_other s hc]

/-- The keys of output entries do not collide: the index is below 2^32 (R51). -/
theorem outKey_inj {ch ch' i i' : Nat} (hi : i < 4294967296) (hi' : i' < 4294967296) (h : outKey ch i = outKey ch' i') :
    ch = ch' ∧ i = i' := by
  unfold outKey at h; omega

end Sys2Proof.Machine
end

