-- ==== Sys2Proof/Laws/HostAccess.lean ====
section
/-! SUPPORT. What a host access can do, said once for writes and once for reads. -/

namespace Sys2Proof.Machine

/-- Everything a host write to a register can do (R56). -/
theorem State.writeRegister_cases (s : State) (r : Reg) (v : Word) :
    (s.busy = true ∧ r.writableWhileBusy = false ∧ s.writeRegister r v = s.reject) ∨
    ((s.busy = false ∨ r.writableWhileBusy = true) ∧ s.writeRegister r v = s.writeAccepted r v) := by
  unfold State.writeRegister
  cases s.busy <;> cases r.writableWhileBusy <;> simp

/-- A write of the frame configuration is rejected in BODY and taken elsewhere (R58). -/
theorem State.writeFrame_eq (s : State) (f : FrameConfig) :
    s.writeFrame f = if s.mode = .body then s.reject else { s with frame := f } := by
  unfold State.writeFrame; split <;> simp_all

/-- Everything a host read of a register can do (R57, R59, R60). -/
theorem State.readRegister_cases (s : State) (r : Reg) :
    (s.busy = true ∧ r.readableWhileBusy = false ∧ s.readRegister r = .next s.drawFree) ∨
    ((s.busy = false ∨ r.readableWhileBusy = true) ∧
      ((r = .sdataLo ∧ s.readRegister r = s.readSdataLo) ∨
       (r = .sdataHi ∧ s.readRegister r = .next s.readSdataHi) ∨
       (r ≠ .sdataLo ∧ r ≠ .sdataHi ∧ s.readRegister r = .next { s with hostData := s.registerWord r }))) := by
  unfold State.readRegister
  cases hb : s.busy <;> cases r <;> simp [Reg.readableWhileBusy]

/-- An event other than a write to CMD issues no command. -/
theorem perform_outside {e : Event} (h : e.commandWord = none) (s : State) : perform e s = outsideEvent e s := by
  simp [perform, h]

end Sys2Proof.Machine
end

