-- ==== Sys2Proof/Laws/PerInstr.lean ====
section
/-! SUPPORT. A statement about every command as syntax, proved constructor by constructor: the word of a well-formed
command carries the command's opcode in bits 31:28 (R74, R75). -/

namespace Sys2Proof.Laws.OpcodeField

/-- The OP field of the command's word is its opcode. -/
def Statement (i : Instr) : Prop := WellFormed i = true → fieldOp (encode i) = opcodeOf i

theorem nop : Statement .nop := fun _ => rfl

theorem fstart : Statement .fstart := fun _ => rfl

theorem fcfg : Statement .fcfg := fun _ => rfl

theorem getb (n : Nat) : Statement (.getb n) := by
  have h : ∀ m < 64, fieldOp (encode (.getb m)) = opcodeOf (.getb m) := by decide
  exact fun hn => h n (of_decide_eq_true hn)

theorem getbs (n : Nat) : Statement (.getbs n) := by
  have h : ∀ m < 64, fieldOp (encode (.getbs m)) = opcodeOf (.getbs m) := by decide
  exact fun hn => h n (of_decide_eq_true hn)

theorem resid (b : Buf) : Statement (.resid b) := fun _ => by cases b <;> rfl

theorem recon (b : Buf) : Statement (.recon b) := fun _ => by cases b <;> rfl

theorem wshl (b : Buf) (k : Nat) : Statement (.wshl b k) := by
  have h : ∀ m < 64, fieldOp (encode (.wshl b m)) = opcodeOf (.wshl b m) := by cases b <;> decide
  exact fun hk => h k (of_decide_eq_true hk)

theorem emit (b : Buf) (ch : Nat) : Statement (.emit b ch) := by
  have h : ∀ m < 8, fieldOp (encode (.emit b m)) = opcodeOf (.emit b m) := by cases b <;> decide
  exact fun hc => h ch (of_decide_eq_true hc)

theorem decor : Statement .decor := fun _ => rfl

theorem fend : Statement .fend := fun _ => rfl

end Sys2Proof.Laws.OpcodeField
end

