-- ==== Sys2Proof/Laws/Sequencer.lean ====
section
/-! SUPPORT. What the bit input, the sequencer, the issue of a command and the step can do, each said once: later
proofs cite these instead of unfolding `readBit`, `drive`, `issue` or `step`. -/

namespace Sys2Proof.Machine

/-! ### The bit input -/

/-- Everything `ReadBit` can answer (R103). -/
theorem BitInput.readBit_cases (p : BitInput) :
    (p.bufLeft ≠ 0 ∧ p.readBit = .bit p.nextBit p.consume) ∨
    (∃ byte rest, p.bufLeft = 0 ∧ p.source.bytes = byte :: rest ∧
      p.readBit = .bit (byte.getLsbD 7)
        { p with
          buf := byte
          bufLeft := 7
          bitPos := p.bitPos + 1
          crc16 := crc16Update p.crc16 (byte.getLsbD 7)
          crc8 := crc8Update p.crc8 (byte.getLsbD 7)
          source := { p.source with bytes := rest } }) ∨
    (p.bufLeft = 0 ∧ p.source.bytes = [] ∧ p.source.ended = true ∧ p.readBit = .endOfStream) ∨
    (p.bufLeft = 0 ∧ p.source.bytes = [] ∧ p.source.ended = false ∧ p.readBit = .wait) := by
  by_cases h0 : p.bufLeft = 0
  · cases hb : p.source.bytes with
    | nil => cases he : p.source.ended <;> simp [BitInput.readBit, h0, hb, he]
    | cons byte rest => exact .inr (.inl ⟨byte, rest, h0, rfl, by simp [BitInput.readBit, h0, hb, BitInput.nextBit, BitInput.consume]⟩)
  · exact .inl ⟨h0, by simp [BitInput.readBit, h0]⟩

/-- What every consumed bit does to the front end (R103, R107). -/
theorem BitInput.readBit_bit {p q : BitInput} {v : Bool} (h : p.readBit = .bit v q) :
    q.bitPos = p.bitPos + 1 ∧ q.crc16 = crc16Update p.crc16 v ∧ q.crc8 = crc8Update p.crc8 v ∧
      q.source.ended = p.source.ended ∧ q.bufLeft = (if p.bufLeft = 0 then 7 else p.bufLeft - 1) := by
  obtain ⟨h0, hr⟩ | ⟨_, _, h0, _, hr⟩ | ⟨_, _, _, hr⟩ | ⟨_, _, _, hr⟩ := p.readBit_cases <;> rw [hr] at h <;> cases h
  · simp [BitInput.consume, h0]
  · simp [h0]

/-- `ReadBit` keeps R48's relation between BUFLEFT and BITPOS. -/
theorem BitInput.readBit_padding {p q : BitInput} {v : Bool} (h : p.readBit = .bit v q)
    (hp : p.bufLeft = p.padding) : q.bufLeft = q.padding := by
  obtain ⟨hpos, _, _, _, hleft⟩ := BitInput.readBit_bit h
  have hq : q.bitPos.toNat % 8 = (p.bitPos.toNat + 1) % 8 := by rw [hpos, BitVec.toNat_add]; simp
  unfold BitInput.padding at *
  rw [hleft, hq]
  split <;> omega

/-! ### The sequencer -/

@[simp] theorem drive_zero (t : Task) (s : State) : drive 0 t s = .next { s with task := some t } := rfl

theorem drive_succ (n : Nat) (t : Task) (s : State) :
    drive (n + 1) t s =
      match advance t s with
      | .go t' s' => drive n t' s'
      | .done s' => .next s'.complete
      | .raise e s' => .next (s'.errorEntry t.op e)
      | .wait => .next { s with task := some t }
      | .fault f => .fault f := rfl

theorem drive_go {n : Nat} {t t' : Task} {s s' : State} (h : advance t s = .go t' s') :
    drive (n + 1) t s = drive n t' s' := by rw [drive_succ, h]

theorem drive_done {n : Nat} {t : Task} {s s' : State} (h : advance t s = .done s') :
    drive (n + 1) t s = .next s'.complete := by rw [drive_succ, h]

theorem drive_raise {n : Nat} {t : Task} {e : RdbError} {s s' : State} (h : advance t s = .raise e s') :
    drive (n + 1) t s = .next (s'.errorEntry t.op e) := by rw [drive_succ, h]

theorem drive_wait {n : Nat} {t : Task} {s : State} (h : advance t s = .wait) :
    drive (n + 1) t s = .next { s with task := some t } := by rw [drive_succ, h]

theorem drive_fault {n : Nat} {t : Task} {f : Fault} {s : State} (h : advance t s = .fault f) :
    drive (n + 1) t s = .fault f := by rw [drive_succ, h]

/-- A command never comes to a refusal. -/
theorem drive_ne_refused (n : Nat) (t : Task) (s : State) (r : Refusal) : drive n t s ≠ .refused r := by
  induction n generalizing t s with
  | zero => simp
  | succ n ih =>
    rw [drive_succ]
    cases advance t s with
    | go t' s' => exact ih t' s'
    | _ => simp

/-- The induction over a running command, once: if `P` holds at its task and state and every sequencer step keeps it,
then `Q` holds where the command stops, whichever way it stops in a next state. -/
theorem drive_next_induction {P : Task → State → Prop} {Q : State → Prop}
    (go : ∀ t s t' s', P t s → advance t s = .go t' s' → P t' s')
    (done : ∀ t s s', P t s → advance t s = .done s' → Q s'.complete)
    (raise : ∀ t s e s', P t s → advance t s = .raise e s' → Q (s'.errorEntry t.op e))
    (pause : ∀ t s, P t s → Q { s with task := some t }) :
    ∀ (n : Nat) (t : Task) (s u : State), P t s → drive n t s = .next u → Q u := by
  intro n
  induction n with
  | zero => intro t s u hP h; cases h; exact pause t s hP
  | succ n ih =>
    intro t s u hP h
    rw [drive_succ] at h
    cases ha : advance t s with
    | go t' s' => rw [ha] at h; exact ih t' s' u (go t s t' s' hP ha) h
    | done s' => rw [ha] at h; cases h; exact done t s s' hP ha
    | raise e s' => rw [ha] at h; cases h; exact raise t s e s' hP ha
    | wait => rw [ha] at h; cases h; exact pause t s hP
    | fault f => rw [ha] at h; cases h

/-- An undisturbed command may take up to `maxBurst` sequencer steps. -/
theorem State.run_undisturbed {s : State} (h : s.pace = []) (t : Task) : s.run t = drive Config.maxBurst t s := by
  obtain ⟨⟩ := s
  simp only at h
  subst h
  rfl

/-! ### Issue -/

/-- A command written while BUSY is rejected (R56). -/
theorem State.issue_busy {s : State} (h : s.busy = true) (legal : BlockState → Legality) (op : BitVec 4) (t : Task) :
    s.issue legal op t = .next s.reject := by simp [State.issue, h]

/-- A command R77 rejects in this state. -/
theorem State.issue_rejected {s : State} {legal : BlockState → Legality} (h : legal s.mode = .rejected)
    (op : BitVec 4) (t : Task) : s.issue legal op t = .next s.reject := by
  unfold State.issue; split <;> simp [h]

/-- A command R77 lets execute. -/
theorem State.issue_ok {s : State} {legal : BlockState → Legality} (hb : s.task = none) (h : legal s.mode = .ok)
    (op : BitVec 4) (t : Task) : s.issue legal op t = s.run t := by simp [State.issue, State.busy, hb, h]

/-- A command illegal in this state raises InvariantViolation (R77, R93). -/
theorem State.issue_violation {s : State} {legal : BlockState → Legality} (hb : s.task = none)
    (h : legal s.mode = .violation) (op : BitVec 4) (t : Task) :
    s.issue legal op t = s.run (.raising op .invariantViolation) := by simp [State.issue, State.busy, hb, h]

/-- Everything the issue of a command can do. -/
theorem State.issue_cases (s : State) (legal : BlockState → Legality) (op : BitVec 4) (t : Task) :
    ((s.busy = true ∨ legal s.mode = .rejected) ∧ s.issue legal op t = .next s.reject) ∨
    (s.task = none ∧ legal s.mode = .ok ∧ s.issue legal op t = s.run t) ∨
    (s.task = none ∧ legal s.mode = .violation ∧
      s.issue legal op t = s.run (.raising op .invariantViolation)) := by
  by_cases hb : s.busy = true
  · exact .inl ⟨.inl hb, State.issue_busy hb legal op t⟩
  · have ht : s.task = none := by simpa [State.busy] using hb
    cases hl : legal s.mode with
    | ok => exact .inr (.inl ⟨ht, rfl, State.issue_ok ht hl op t⟩)
    | violation => exact .inr (.inr ⟨ht, rfl, State.issue_violation ht hl op t⟩)
    | rejected => exact .inl ⟨.inr rfl, State.issue_rejected hl op t⟩

/-- No command is refused: every arm of `exec` has its meaning. -/
theorem exec_ne_refused (i : Instr) (s : State) (r : Refusal) : exec i s ≠ .refused r := by
  have key : ∀ legal op t, s.issue legal op t ≠ .refused r := by
    intro legal op t
    obtain ⟨_, h⟩ | ⟨_, _, h⟩ | ⟨_, _, h⟩ := s.issue_cases legal op t <;> rw [h]
    · simp
    · exact drive_ne_refused _ _ _ _
    · exact drive_ne_refused _ _ _ _
  cases i <;> exact key _ _ _

/-! ### Step -/

/-- With no event left an idle block stays as it is (R166). -/
theorem step_no_event {s : State} (h : s.events = []) : step s = s.resume := by simp [step, h]

/-- An event reaches an idle block. -/
theorem step_idle {s : State} {e : Event} {rest : List Event} (h : s.events = e :: rest) (hb : s.task = none) :
    step s = perform e { s with events := rest } := by simp [step, h, State.busy, hb]

/-- An event reaches a BUSY block, whose command then goes on. -/
theorem step_busy {s : State} {e : Event} {rest : List Event} (h : s.events = e :: rest) (hb : s.task ≠ none) :
    step s = resumeAfter (perform e { s with events := rest }) := by
  simp [step, h, State.busy, Option.isSome_iff_ne_none, hb]

/-- A host write to CMD is the only event that issues a command (R30). -/
theorem perform_cmd (w : Word) (s : State) : perform (.write 0x018 w) s = issueWord w s := rfl

end Sys2Proof.Machine
end

