-- ==== Sys2Proof/Laws/Reading.lean ====
section
/-! SUPPORT. `ReadBit` and `ReadBits` in terms of the stream bits at hand: what one read does to `bits`, and what a
running `ReadBits` does to the machine. -/

namespace Sys2Proof.Machine

/-- With a bit at hand `ReadBit` gives it and leaves the others. -/
theorem BitInput.readBit_of_bits {p : BitInput} {v : Bool} {rest : List Bool} (h : p.bits = v :: rest) :
    ∃ q, p.readBit = .bit v q ∧ q.bits = rest := by
  obtain ⟨h0, hr⟩ | ⟨byte, more, h0, hb, hr⟩ | ⟨h0, hb, _, _⟩ | ⟨h0, hb, _, _⟩ := p.readBit_cases
  · obtain ⟨n, hn⟩ := Nat.exists_eq_succ_of_ne_zero h0
    have hc : p.consume.bufLeft = n := by simp [BitInput.consume, hn]
    simp only [BitInput.bits, hn, List.range_succ, List.reverse_append, List.reverse_cons, List.reverse_nil,
      List.nil_append, List.cons_append, List.map_cons, List.cons.injEq] at h
    refine ⟨p.consume, hr.trans ?_, ?_⟩
    · rw [BitInput.nextBit, hn, ← h.1]; rfl
    · simp only [BitInput.bits, hc]; exact h.2
  · simp [BitInput.bits, h0, hb, byteBits, List.range_succ] at h
    obtain ⟨rfl, h⟩ := h
    refine ⟨_, by rw [hr]; rfl, ?_⟩
    simp [BitInput.bits, List.range_succ, ← h]
  · simp [BitInput.bits, h0, hb] at h
  · simp [BitInput.bits, h0, hb] at h

/-- With no bit at hand `ReadBit` meets the end of stream or waits. -/
theorem BitInput.readBit_of_no_bits {p : BitInput} (h : p.bits = []) :
    p.readBit = if p.source.ended then .endOfStream else .wait := by
  obtain ⟨h0, _⟩ | ⟨byte, more, h0, hb, _⟩ | ⟨_, _, he, hr⟩ | ⟨_, _, he, hr⟩ := p.readBit_cases
  · obtain ⟨n, hn⟩ := Nat.exists_eq_succ_of_ne_zero h0
    simp [BitInput.bits, hn, List.range_succ] at h
  · simp [BitInput.bits, h0, hb, byteBits, List.range_succ] at h
  · simp [hr, he]
  · simp [hr, he]

/-- The bits at hand after some have been read. -/
theorem BitInput.advanceBy_bits {p : BitInput} {n : Nat} (h : n ≤ p.bits.length) :
    (p.advanceBy n).bits = p.bits.drop n := by
  induction n generalizing p with
  | zero => rfl
  | succ n ih =>
    match hb : p.bits with
    | [] => simp [hb] at h
    | v :: rest =>
      obtain ⟨q, hr, hq⟩ := BitInput.readBit_of_bits hb
      simp only [BitInput.advanceBy, hr, List.drop_succ_cons]
      rw [ih (by rw [hq]; simpa [hb] using h), hq]

/-- `ReadBits` with enough bits at hand: after `left` sequencer steps the value is complete. -/
theorem drive_reading {left : Nat} (m acc : Nat) (use : Purpose) (s : State) (h : left ≤ s.input.bits.length) :
    drive (left + m) (.reading left acc use) s =
      drive m (.reading 0 ((s.input.bits.take left).foldl (fun a b => 2 * a + b.toNat) acc) use)
        { s with input := s.input.advanceBy left } := by
  induction left generalizing acc s with
  | zero => simp [BitInput.advanceBy]
  | succ left ih =>
    match hb : s.input.bits with
    | [] => simp [hb] at h
    | v :: rest =>
      obtain ⟨q, hr, hq⟩ := BitInput.readBit_of_bits hb
      have ha : advance (.reading (left + 1) acc use) s =
          .go (.reading left (2 * acc + v.toNat) use) { s with input := q } := by
        simp [advance, advanceReading, hr]
      rw [Nat.add_right_comm, drive_go ha, ih]
      · simp [BitInput.advanceBy, hr, hq]
      · simpa [hq, hb] using h

/-- The value of a completed `ReadBits` is used by the next sequencer step. -/
theorem advance_reading_zero (acc : Nat) (use : Purpose) (s : State) :
    advance (.reading 0 acc use) s = finishRead use acc s := rfl

end Sys2Proof.Machine
end

