-- ==== Sys2Proof/Tests/Slice0.lean ====
section
/-! SUPPORT. Tests of the model on fixed values, each expected result from the spec (the vector or example it names), and
one witness for the hypotheses of each statement that has any. -/

namespace Sys2Proof.Tests

open Sys2Proof.Machine

/-! ### Helpers -/

/-- The next state of an outcome, if it is one. -/
def landing : Host.Outcome State Fault Refusal → Option State
  | .next s => some s
  | .fault _ => none
  | .refused _ => none

/-- One field of the next state. -/
def seen {α : Type} (o : Host.Outcome State Fault Refusal) (f : State → α) : Option α := (landing o).map f

/-- The model fault of an outcome, if it is one. -/
def faultOf : Host.Outcome State Fault Refusal → Option Fault
  | .next _ => none
  | .fault f => some f
  | .refused _ => none

/-- After reset, with a byte source that holds the bytes and then ends. -/
def fed (bytes : List Byte) : State := State.reset.withSource { bytes := bytes, ended := true }

/-- The "body start" of spec/95_test_vectors.md: block size, channel assignment, depth, OUTOFF; BITPOS = 0. -/
def body (n chasgn depth off : Nat) (bytes : List Byte) : State :=
  { fed bytes with
    mode := .body
    frame :=
      { blksize := BitVec.ofNat 17 n
        chasgn := BitVec.ofNat 4 chasgn
        depth := BitVec.ofNat 6 depth
        outoff := BitVec.ofNat 32 off
        outlen := BitVec.ofNat 32 (off + n)
        outch := if chasgn ≤ 7 then BitVec.ofNat 4 (chasgn + 1) else 2 } }

/-- The same with PCFG. -/
def predictor (s : State) (kind : PredictorKind) (order shift : Nat) : State :=
  { s with pcfg := { kind := kind, order := BitVec.ofNat 6 order, shift := BitVec.ofNat 5 shift } }

/-- The first entries of a buffer. -/
def entries (s : State) (b : Buf) (n : Nat) : List (Option Int) :=
  (List.range n).map fun i => (s.readScratch b i).map BitVec.toInt

/-- FCFG's start: HDR with a frame configuration. -/
def header (n chasgn depth outch off len : Nat) : State :=
  { State.reset with
    mode := .hdr
    frame :=
      { blksize := BitVec.ofNat 17 n
        chasgn := BitVec.ofNat 4 chasgn
        depth := BitVec.ofNat 6 depth
        outoff := BitVec.ofNat 32 off
        outlen := BitVec.ofNat 32 len
        outch := BitVec.ofNat 4 outch } }

/-! ### WellFormed: an ill-formed term for each check -/

theorem test_wf_refuses_getb_64 : WellFormed (.getb 64) = false := by decide
theorem test_wf_refuses_getbs_64 : WellFormed (.getbs 64) = false := by decide
theorem test_wf_refuses_wshl_64 : WellFormed (.wshl .s0 64) = false := by decide
theorem test_wf_refuses_emit_8 : WellFormed (.emit .s1 8) = false := by decide
theorem test_wf_admits_getb_33 : WellFormed (.getb 33) = true := by decide

/-! ### Decoding: a word written out from R74 for each command (OP, reserved, S, reserved, N, reserved, CH, reserved, B) -/

theorem test_decode_nop : decode 0b0000_00000000000_0_00_000000_0_000_000_0 = .ok .nop := by decide
theorem test_decode_fstart : decode 0b0001_00000000000_0_00_000000_0_000_000_0 = .ok .fstart := by decide
theorem test_decode_fcfg : decode 0b0010_00000000000_0_00_000000_0_000_000_0 = .ok .fcfg := by decide
theorem test_decode_getb : decode 0b0011_00000000000_0_00_001110_0_000_000_0 = .ok (.getb 14) := by decide
theorem test_decode_getbs : decode 0b0011_00000000000_1_00_000010_0_000_000_0 = .ok (.getbs 2) := by decide
theorem test_decode_resid : decode 0b0100_00000000000_0_00_000000_0_000_000_1 = .ok (.resid .s1) := by decide
theorem test_decode_recon : decode 0b0101_00000000000_0_00_000000_0_000_000_0 = .ok (.recon .s0) := by decide
theorem test_decode_wshl : decode 0b0110_00000000000_0_00_101000_0_000_000_1 = .ok (.wshl .s1 40) := by decide
theorem test_decode_emit : decode 0b0111_00000000000_0_00_000000_0_101_000_1 = .ok (.emit .s1 5) := by decide
theorem test_decode_decor : decode 0b1000_00000000000_0_00_000000_0_000_000_0 = .ok .decor := by decide
theorem test_decode_fend : decode 0b1001_00000000000_0_00_000000_0_000_000_0 = .ok .fend := by decide
/-- Vector GB9. -/
theorem test_decode_refuses_reserved_bit : decode 0x30000380 = .error .reservedBits := by decide
/-- Vector GB10. -/
theorem test_decode_refuses_reserved_opcode : decode 0xA0000000 = .error .reservedOpcode := by decide
/-- R76: field N is reserved for EMIT. -/
theorem test_decode_refuses_unused_field : decode 0x70000100 = .error .reservedBits := by decide
theorem test_table_word : decodeTableWord 32 0x60000200 = some (.wshl .s0 2) := by decide
theorem test_encode_wrs_address : scratchAddressWord .s1 7 = 0x10007 := by decide

/-! ### CRC -/

/-- Vectors K1: the check values over "123456789" (R108, R109). -/
theorem test_crc16_check_value :
    (([0x31, 0x32, 0x33, 0x34, 0x35, 0x36, 0x37, 0x38, 0x39] : List Byte).flatMap byteBits).foldl crc16Update 0 =
      0xFEE8 := by decide +kernel
theorem test_crc8_check_value :
    (([0x31, 0x32, 0x33, 0x34, 0x35, 0x36, 0x37, 0x38, 0x39] : List Byte).flatMap byteBits).foldl crc8Update 0 =
      0xF4 := by decide +kernel

/-! ### NOP, FSTART, FCFG -/

/-- Vector F5. -/
theorem test_nop_in_idle : seen (exec .nop State.reset) State.statusWord = some 0x010 := by decide

/-- R97's example: BITPOS = 13 (BUFLEFT = 3) becomes 16. -/
theorem test_fstart_aligns :
    seen (exec .fstart { State.reset with
        input := { State.reset.input with bitPos := 13, bufLeft := 3, crc16 := 0x1234 } })
      (fun s => (s.input.bitPos, s.fsbit, s.input.crc16, s.mode)) = some (16, 16, 0, .hdr) := by decide

/-- Vector F2: FSTART leaves ERROR and clears the latch. -/
theorem test_fstart_leaves_error :
    seen (exec .fstart (State.reset.errorEntry 0xA .argumentError)) (fun s => (s.mode, s.err.word)) =
      some (.hdr, 0) := by decide

/-- Vector FC4: N = 65536 is legal. -/
theorem test_fcfg_largest_block : seen (exec .fcfg (header 65536 0 16 1 0 65536)) State.mode = some .body := by decide

/-- Vector FC11: OUTOFF + N does not wrap. -/
theorem test_fcfg_window_does_not_wrap :
    seen (exec .fcfg (header 16 0 16 1 0xFFFFFFFF 0xFFFFFFFF)) (fun s => s.err.word) = some 0x240 := by decide

/-! ### GETB, GETBS -/

/-- Vector GB1, first command. -/
theorem test_getb_sync :
    seen (exec (.getb 14) (fed [0xFF, 0xF8])) (fun s => (s.rdata, s.input.bitPos, s.input.crc16)) =
      some (0x3FFE, 14, 0x0007) := by decide +kernel

/-- Vector GB7: the end of stream in the middle of a field. -/
theorem test_getb_cut_short :
    seen (exec (.getb 14) { fed [0xFF] with mode := .hdr }) (fun s => (s.err.word, s.err.pos, s.err.idx, s.mode)) =
      some (0x309, 8, 0xFFFFFFFF, .error) := by decide

/-- Vector GB2. -/
theorem test_getbs_sign :
    seen (exec (.getbs 8) (fed [0x80])) (fun s => (s.rdata, s.input.crc16, s.input.crc8)) =
      some (0xFFFFFF80, 0x8303, 0x89) := by decide

/-- Vector GB5, with GETBS: the end of stream at a frame boundary. -/
theorem test_getbs_no_more_frames : seen (exec (.getbs 8) (fed [])) State.statusWord = some 0x050 := by decide

/-! ### RESID -/

/-- Vector RS2: method 1, a Rice partition and an escaped one. -/
theorem test_resid_rice_and_escape :
    seen (exec (.resid .s0)
        (predictor ((body 4 0 32 0 [0x44, 0x46, 0xF9, 0x60, 0xF0]).writeScratch .s0 0 0) .fixed 1 0))
      (fun s => (entries s .s0 4, s.input.bitPos)) = some ([some 0, some 5, some (-16), some 15], 36) := by decide

/-- Vector RS12: the end of stream inside residual 2. -/
theorem test_resid_end_of_stream_inside_residual :
    seen (exec (.resid .s0) (body 4 0 32 0 [0x00, 0x64, 0x00]))
      (fun s => (s.err.word, s.err.pos, s.err.idx, entries s .s0 4)) =
      some (0x409, 24, 2, [some 0, some 1, none, none]) := by decide

/-! ### RECON, WSHL -/

/-- Vector RC7: the shift is arithmetic. -/
theorem test_recon_arithmetic_shift :
    seen (exec (.recon .s0)
        ((predictor (body 2 0 32 0 []) .lpc 1 1).writeFrom .s0 0 [-3, 0] |>.writeCoef 0 1))
      (fun s => (entries s .s0 2, s.coefValid 0)) = some ([some (-3), some (-2)], false) := by decide

/-- Vector RC5: the order-4 fixed predictor on cubes. -/
theorem test_recon_fixed_order_4 :
    seen (exec (.recon .s1) ((predictor (body 6 0 32 0 []) .fixed 4 0).writeFrom .s1 0 [1, 8, 27, 64, 0, 0]))
      (fun s => entries s .s1 6) = some [some 1, some 8, some 27, some 64, some 125, some 216] := by decide

/-- Vector W3: bits shifted past bit 63 are lost. -/
theorem test_wshl_63 :
    seen (exec (.wshl .s0 63) ((body 3 0 32 0 []).writeFrom .s0 0 [1, 3, -1])) (fun s => entries s .s0 3) =
      some [some (-2 ^ 63), some (-2 ^ 63), some (-2 ^ 63)] := by decide

/-- Vector W5: an unwritten entry. -/
theorem test_wshl_unwritten :
    faultOf (exec (.wshl .s0 1) ((body 2 0 32 0 []).writeFrom .s0 0 [1])) = some (.unwrittenScratch .s0 1) := by decide

/-! ### EMIT, DECOR -/

/-- Vector EM1. -/
theorem test_emit_channel_1 :
    seen (exec (.emit .s0 1) ((body 3 1 16 10 []).writeFrom .s0 0 [5, -32768, 32767]))
      (fun s => (List.range 3).map fun i => s.readOut 1 (10 + i)) =
      some [some 0x00000005, some 0xFFFF8000, some 0x00007FFF] := by decide

/-- Vector EM2: the outputs before the error stay. -/
theorem test_emit_out_of_range :
    seen (exec (.emit .s0 1) ((body 3 1 16 10 []).writeFrom .s0 0 [5, -32769, 32767]))
      (fun s => (s.err.word, s.err.idx, s.mode, s.readOut 1 10, s.readOut 1 11)) =
      some (0x1780, 1, .fatal, some 5, none) := by decide

/-- Vector DC4: mid/side with negative values. -/
theorem test_decor_mid_side :
    seen (exec .decor (((body 2 10 16 0 []).writeFrom .s0 0 [-3, -2]).writeFrom .s1 0 [1, -3]))
      (fun s => [s.readOut 0 0, s.readOut 0 1, s.readOut 1 0, s.readOut 1 1]) =
      some [some 0xFFFFFFFE, some 0xFFFFFFFD, some 0xFFFFFFFD, some 0x00000000] := by decide

/-- Vector DC5: an error in pass 2 leaves all of channel 0 written. -/
theorem test_decor_error_in_pass_2 :
    seen (exec .decor (((body 2 8 8 0 []).writeFrom .s0 0 [127, -128]).writeFrom .s1 0 [-1, 1]))
      (fun s => (s.err.word, s.err.idx, s.readOut 0 1, s.readOut 1 0)) =
      some (0x1880, 0, some 0xFFFFFF80, none) := by decide

/-! ### FEND -/

/-- Vector FE3: four padding bits enter the CRC. -/
def afterTwelveBits : State := { body 1 0 8 0 [] with input := (fed [0xA5, 0x10, 0x5E, 0x69]).input.advanceBy 12 }

theorem test_fend_with_padding :
    seen (exec .fend afterTwelveBits) (fun s => (s.fsize, s.mode, s.input.crc16)) = some (4, .idle, 0) := by decide +kernel

/-- Vector FE4. -/
theorem test_fend_invalid_padding :
    seen (exec .fend
        { body 1 0 8 0 [] with input := (fed [0xA5, 0x11, 0x00, 0x00]).input.advanceBy 12 })
      (fun s => (s.err.word, s.err.pos)) = some (0x904, 16) := by decide

/-! ### Host accesses and the step -/

/-- Vector F3, through the step: RESID in IDLE. -/
theorem test_step_resid_in_idle :
    seen (step (State.reset.withFetchWord 32 0x40000000)) (fun s => (s.err.word, s.statusWord)) =
      some (0x481, 0x028) := by decide

/-- Vector H5: a soft reset while a GETB waits. -/
theorem test_soft_reset_while_waiting :
    seen (step { State.reset with
        task := some (.reading 8 0 (.getb false 8)), events := [.write 0x004 0x80000000] })
      (fun s => (s.busy, s.statusWord)) = some (false, 0) := by decide

/-- Vector H3. -/
theorem test_blksize_is_locked_in_body :
    seen (step { body 4 0 8 0 [] with events := [.write 0x020 5] }) (fun s => (s.flags.rej, s.frame.blksize)) =
      some (true, 4) := by decide

/-! ### Witnesses: a state that meets the hypotheses of each statement -/

/-- A GETB that waits: no byte at hand, no end of stream. -/
def starving : State := { State.reset with input := { State.reset.input with buf := 0x05, bufLeft := 3, bitPos := 5 } }

/-- The state in which that GETB waits. -/
def waiting : State :=
  { starving with input := starving.input.advanceBy 3, task := some (.reading 5 5 (.getb false 8)) }

theorem witness_starving_waits : landing (exec (.getb 8) starving) = some waiting := by decide

theorem witness_DecodeEncodeRoundTrip : WellFormed (.wshl .s1 63) = true ∧ WellFormed (.emit .s1 7) = true := by decide
theorem witness_DecodedWordIsItsEncoding : decode 0x70000071 = .ok (.emit .s1 7) := by decide
theorem witness_StepRunsDecodedCommand :
    (State.reset.withFetchWord 32 0x10000000).task = none ∧
    (State.reset.withFetchWord 32 0x10000000).events = .write 0x018 0x10000000 :: [] ∧
    decode 0x10000000 = .ok .fstart := by decide
theorem witness_StepResumesCommandInProgress :
    waiting.task = some (.reading 5 5 (.getb false 8)) ∧ waiting.events = [] ∧
    ∃ s', perform .sourceEnd { waiting with events := [] } = .next s' := ⟨rfl, rfl, _, rfl⟩
theorem witness_IllegalWordRaisesArgumentError :
    (State.reset.withFetchWord 32 0xF0000000).accepting ∧
    (State.reset.withFetchWord 32 0xF0000000).events = .write 0x018 0xF0000000 :: [] ∧
    decode 0xF0000000 = .error .reservedOpcode := by decide
theorem witness_ErrorStatesRejectCommandWrites :
    (State.reset.errorEntry 0 .argumentError).mode = .error ∧ (State.reset.errorEntry 0 .argumentError).task = none ∧
    (0x10000001 : Word) ≠ 0x10000000 ∧ (State.reset.errorEntry 0 .invariantViolation).mode = .fatal := by decide
theorem witness_CommandInWrongStateRaisesInvariantViolation :
    (body 1 0 8 0 []).task = none ∧ (body 1 0 8 0 []).pace = [] ∧ (body 1 0 8 0 []).mode = .body ∧
    bodyOnly .decor = true ∧ State.reset.mode = .idle := by decide
theorem witness_ErrorEntryLatchesErrorAndState :
    (RdbError.bitDepthOverflow 3 9).code = 0x80 ∧ RdbError.crc16Mismatch.code ≠ 0x80 := by decide
/-- FATAL, with an event that is no reset. -/
theorem witness_FatalIsLeftOnlyByReset :
    (State.reset.errorEntry 0 .invariantViolation).mode = .fatal ∧
    (Event.write 0x004 1 : Event) ≠ .hardReset ∧ (∀ v : Word, v.getLsbD 31 = true → Event.write 0x004 1 ≠ .write 0x004 v) ∧
    ∃ t, step { State.reset.errorEntry 0 .invariantViolation with events := [.write 0x004 1] } = .next t :=
  ⟨rfl, by decide, fun v hv h => by cases h; exact absurd hv (by decide), _, rfl⟩
theorem witness_NopCompletes : State.reset.accepting := by decide
theorem witness_FstartOpensFrame :
    (State.reset.errorEntry 0 .argumentError).mode ≠ .fatal ∧ (State.reset.errorEntry 0 .argumentError).task = none ∧
    (State.reset.errorEntry 0 .argumentError).pace = [] := by decide
/-- FC1, at the upper ends: N = 65536, D = 32, 8 channels, a window that ends at the buffer's end. -/
theorem witness_FcfgOpensBody :
    let s := header 65536 7 32 8 10 65546
    s.ready .hdr ∧ 1 ≤ s.frame.blksize.toNat ∧ s.frame.blksize.toNat ≤ 65536 ∧ s.frame.chasgn.toNat < 11 ∧
    1 ≤ s.frame.depth.toNat ∧ s.frame.depth.toNat ≤ 32 ∧ 1 ≤ s.frame.outch.toNat ∧ s.frame.outch.toNat ≤ 8 ∧
    (if s.frame.chasgn.toNat ≤ 7 then s.frame.chasgn.toNat + 1 else 2) ≤ s.frame.outch.toNat ∧
    s.frame.outoff.toNat + s.frame.blksize.toNat ≤ s.frame.outlen.toNat := by decide
/-- FC5, FC6, FC8, FC9, FC10, FC2: one state for each clause and each alternative. -/
theorem witness_FcfgReportsFirstFailingCheck :
    ¬((header 65537 0 16 1 0 70000).frame.blksize.toNat ≤ 65536) ∧ (header 65537 0 16 1 0 70000).ready .hdr ∧
    11 ≤ (header 16 11 16 2 0 16).frame.chasgn.toNat ∧ (header 16 11 16 2 0 16).ready .hdr ∧
    32 < (header 16 10 33 2 0 16).frame.depth.toNat ∧ (header 16 10 33 2 0 16).frame.chasgn.toNat < 11 ∧
    (header 16 5 16 5 0 16).frame.outch.toNat < 6 ∧ 8 < (header 16 0 16 9 0 16).frame.outch.toNat ∧
    (header 16 0 16 1 0 15).frame.outlen.toNat < 16 := by decide
theorem witness_ReadingBitsAdvancesCursorAndCrcs : 16 ≤ (fed [0xFF, 0xF8]).input.bits.length := by decide
theorem witness_GetbOfZeroBitsAndOfMoreThan32Bits : (fed [0x80]).accepting ∧ 32 < 33 := by decide
theorem witness_GetbReadsUnsignedField :
    (fed [0x12, 0x34, 0x56, 0x78]).accepting ∧ 32 ≤ (fed [0x12, 0x34, 0x56, 0x78]).input.bits.length := by decide
theorem witness_GetbsReadsSignedField :
    (fed [0x80]).accepting ∧ 1 ≤ (fed [0x80]).input.bits.length ∧ (fed [0x80]).input.bits.head? = some true := by decide
/-- GB5 and GB6. -/
theorem witness_GetbAtFrameBoundarySignalsNoMoreFrames :
    (fed []).task = none ∧ (fed []).pace = [] ∧ (fed []).mode = .idle ∧ (fed []).input.bits = [] ∧
    (fed []).input.source.ended = true ∧ (fed []).input.bitPos = (fed []).fsbit := by decide
/-- The byte source has not ended. -/
def silent (s : State) : State := s.withSource { s.input.source with ended := false }

/-- RS2's section, cut short. -/
def sectionStart (bytes : List Byte) : State := predictor (body 4 0 32 0 bytes) .fixed 1 0

/-- FE5: a frame of one byte, with nothing where the CRC field belongs. -/
def footerMissing : State := { body 1 0 8 0 [] with input := (fed [0xA5]).input.advanceBy 8 }

/-- RS12: the bits end in residual 2, in its unary quotient. -/
theorem witness_ResidOutOfBits_quotient :
    ResidOutOfBits (body 4 0 32 0 [0x00, 0x64, 0x00]) .s0 (some 2)
      ((body 4 0 32 0 [0x00, 0x64, 0x00]).residReached .s0 [.rice 1 [0, 2]]) :=
  .residual false 0 [] (.rice 1 [0, 2]) (List.replicate 9 false) (by decide) (by decide) ⟨9, by decide, .inl rfl⟩
    (by decide)
/-- The bits end in residual 1, between its unary quotient and its remainder (k = 3). -/
theorem witness_ResidOutOfBits_remainder :
    ResidOutOfBits (body 4 0 32 0 [0x00, 0xE5]) .s0 (some 1)
      ((body 4 0 32 0 [0x00, 0xE5]).residReached .s0 [.rice 3 [1]]) :=
  .residual false 0 [] (.rice 3 [1]) [false, true] (by decide) (by decide) ⟨1, by decide, .inr ⟨[], by decide, rfl⟩⟩
    (by decide)
/-- RS2 after four bytes: the bits end in residual 3, a raw field, behind a complete partition. -/
theorem witness_ResidOutOfBits_raw :
    ResidOutOfBits (sectionStart [0x44, 0x46, 0xF9, 0x60]) .s0 (some 3)
      ((sectionStart [0x44, 0x46, 0xF9, 0x60]).residReached .s0 [.rice 2 [10], .escaped 5 [-16]]) :=
  .residual true 1 [.rice 2 [10]] (.escaped 5 [-16]) [false] (by decide) (by decide) (show 1 < 5 by decide)
    (by decide)
/-- RS2 after three bytes: the bits end in the raw width. -/
theorem witness_ResidOutOfBits_rawWidth :
    ResidOutOfBits (sectionStart [0x44, 0x46, 0xF9]) .s0 none
      ((sectionStart [0x44, 0x46, 0xF9]).residReached .s0 [.rice 2 [10]]) :=
  .rawWidth true 1 [.rice 2 [10]] [false, false, true] (by decide) (by decide) (by decide)
/-- RS2 after two bytes: the bits end where the second parameter begins. -/
theorem witness_ResidOutOfBits_parameter :
    ResidOutOfBits (sectionStart [0x44, 0x46]) .s0 none
      ((sectionStart [0x44, 0x46]).residReached .s0 [.rice 2 [10]]) :=
  .parameter true 1 [.rice 2 [10]] [] (by decide) (by decide) (by decide)
/-- No bit at hand, and five. -/
theorem witness_ResidOutOfBits_header :
    ResidOutOfBits (sectionStart []) .s0 none ((sectionStart []).residReached .s0 []) ∧
    ∃ s : State, s.input.bits.length = 5 ∧ ResidOutOfBits s .s1 none (s.residReached .s1 []) :=
  ⟨.header (by decide) (by decide), { sectionStart [] with input := (fed [0x00]).input.advanceBy 3 }, by decide,
    .header (by decide) (by decide)⟩

/-- GB7, GB11, a GETB in HDR behind header bits that has no bit, RS12 and FE5. -/
theorem witness_CutShortIsUnexpectedEndOfStream :
    (fed [0xFF]).accepting ∧ (fed [0xFF]).input.bits.length < 14 ∧ (fed [0xFF]).input.source.ended = true ∧
    (fed [0xFF]).input.bits ≠ [] ∧ (body 1 0 8 0 []).accepting ∧ (body 1 0 8 0 []).mode = .body ∧
    (let s := { fed [] with mode := .hdr, input := (fed [0xFF]).input.advanceBy 8 }
     s.accepting ∧ s.mode = .hdr ∧ s.input.bitPos ≠ s.fsbit ∧ s.input.bits.length < 1 ∧ s.input.source.ended = true) ∧
    (let s := body 4 0 32 0 [0x00, 0x64, 0x00]
     s.ready .body ∧ s.pcfg.legal = true ∧ s.pcfg.negativeShift = false ∧ s.input.source.ended = true) ∧
    footerMissing.ready .body ∧ footerMissing.fendOutOfBits ∧ footerMissing.input.source.ended = true := by decide
/-- The same where the source has not ended. -/
theorem witness_CommandsWaitForTheByteSource :
    starving.accepting ∧ starving.input.bits.length < 8 ∧ starving.input.source.ended = false ∧
    (silent (sectionStart [])).ready .body ∧ (silent (sectionStart [])).pcfg.legal = true ∧
    (silent (sectionStart [])).pcfg.negativeShift = false ∧ (silent (sectionStart [])).input.bits.length < 2 ∧
    (silent (sectionStart [])).input.source.ended = false ∧ (silent footerMissing).ready .body ∧
    (silent footerMissing).fendOutOfBits ∧ (silent footerMissing).input.source.ended = false ∧
    waiting.statusWord.getLsbD 8 = true ∧
    (waiting.withSource { bytes := [0xFF], ended := false }).statusWord.getLsbD 8 = false := by decide
/-- A GETB, a RESID and a FEND that wait. -/
theorem witness_LateAnswerEndsTheCommandAsAnEarlyOne :
    starving.task = none ∧ starving.pace = [] ∧ starving.events = [] ∧ waiting.busy = true ∧
    landing (exec (.getb 8) starving) = some waiting ∧
    seen (exec (.resid .s1) (silent (sectionStart [0x44, 0x46, 0xF9]))) State.busy = some true ∧
    seen (exec .fend (silent footerMissing)) State.busy = some true := by decide +kernel
/-- RS2, the section itself: method 1, po = 1, one Rice residual and two escaped ones. -/
theorem witness_ResidDecodesEverySection :
    let s := predictor (body 4 0 32 0 [0x44, 0x46, 0xF9, 0x60, 0xF0]) .fixed 1 0
    let parts : List PartitionCode := [.rice 2 [10], .escaped 5 [-16, 15]]
    s.ready .body ∧ s.pcfg.legal = true ∧ s.pcfg.negativeShift = false ∧
    sectionFits true 1 s.frame.blockSize s.pcfg.order.toNat parts = true ∧
    s.input.bits = sectionBits true 1 parts ++ List.replicate 4 false := by decide
/-- RS14, RS15 and RS13. -/
theorem witness_PredictorConfigIsCheckedFirst :
    (predictor (body 8 0 32 0 []) .fixed 5 0).ready .body ∧
    4 < (predictor (body 8 0 32 0 []) .fixed 5 0).pcfg.order.toNat ∧
    (predictor (body 8 0 32 0 []) .lpc 0 0).pcfg.order.toNat = 0 ∧
    32 < (predictor (body 8 0 32 0 []) .lpc 33 0).pcfg.order.toNat ∧
    (predictor (body 4 0 32 0 []) .lpc 32 0x10).pcfg.order.toNat ≤ 32 ∧
    (predictor (body 4 0 32 0 []) .lpc 32 0x10).pcfg.shift.getLsbD 4 = true := by decide
/-- RS5, RS6, RS7. -/
theorem witness_ResidChecksMethodThenPartitionOrder :
    (body 4 0 32 0 [0x80]).ready .body ∧ (body 4 0 32 0 [0x80]).pcfg.legal = true ∧
    (body 4 0 32 0 [0x80]).pcfg.negativeShift = false ∧ 2 ≤ bitsValue ((body 4 0 32 0 [0x80]).input.bits.take 2) ∧
    bitsValue ((body 100 0 32 0 [0x0C]).input.bits.take 2) < 2 ∧
    (body 100 0 32 0 [0x0C]).frame.blockSize %
      2 ^ bitsValue (((body 100 0 32 0 [0x0C]).input.bits.drop 2).take 4) ≠ 0 ∧
    (body 8 0 32 0 [0x08]).frame.blockSize / 2 ^ bitsValue (((body 8 0 32 0 [0x08]).input.bits.drop 2).take 4) <
      (predictor (body 8 0 32 0 [0x08]) .fixed 3 0).pcfg.order.toNat := by decide
/-- RS10: method 1, k = 30, the first code; and a code behind another one. -/
theorem witness_ResidBoundsTheUnaryQuotient :
    (let s := body 1 0 32 0 [0x43, 0xC1]
     s.ready .body ∧ s.pcfg.legal = true ∧ s.pcfg.negativeShift = false ∧
     sectionOpen true 0 s.frame.blockSize s.pcfg.order.toNat [] = true ∧
     (PartitionCode.rice 30 []).begun true (nextCount 0 s.frame.blockSize s.pcfg.order.toNat []) = true ∧
     s.input.bits =
       sectionBits true 0 ([] ++ [PartitionCode.rice 30 []]) ++ List.replicate (2 ^ (32 - 30)) false ++ [true]) ∧
    (let s := sectionStart [0x44, 0x46, 0xF2, 0x00, 0x00, 0x00, 0x00, 0x00]
     s.ready .body ∧ s.pcfg.legal = true ∧ s.pcfg.negativeShift = false ∧
     sectionOpen true 1 s.frame.blockSize s.pcfg.order.toNat [.rice 2 [10]] = true ∧
     (PartitionCode.rice 30 [2 ^ 30]).begun true
       (nextCount 1 s.frame.blockSize s.pcfg.order.toNat [.rice 2 [10]]) = true ∧
     s.input.bits =
       sectionBits true 1 ([.rice 2 [10]] ++ [PartitionCode.rice 30 [2 ^ 30]]) ++ List.replicate (2 ^ (32 - 30)) false ++
         List.replicate 7 false) := by decide +kernel
/-- RC6; and ORDER = N. -/
theorem witness_ReconFollowsTheRecurrence :
    (let s := predictor (body 4 0 32 0 []) .fixed 4 0
     s.ready .body ∧ s.pcfg.legal = true ∧ s.pcfg.negativeShift = false ∧ s.pcfg.kind ≠ .lpc ∧
     s.frame.blockSize ≤ s.pcfg.order.toNat) ∧
    let s := (((predictor (body 5 0 32 0 []) .lpc 2 1).writeFrom .s0 0 [100, 102, 1, -1, 0]).writeCoef 0 3).writeCoef 1 (-1)
    s.ready .body ∧ s.pcfg.legal = true ∧ s.pcfg.negativeShift = false ∧
    (∀ j : Nat, j < s.pcfg.order.toNat → s.coefValid j = true) ∧ s.frame.blockSize = 5 ∧
    s.holds .s0 [100, 102, 1, -1, 0] := by decide
theorem witness_WshlShiftsEverySample :
    let s := (body 3 0 32 0 []).writeFrom .s1 0 [3, -1, 0]
    s.ready .body ∧ s.frame.blockSize = 3 ∧ s.holds .s1 [3, -1, 0] := by decide
/-- W5 and RC12; a RECON whose warm-up 0 of two is unwritten, and one whose residual 2 is; a DECOR whose S0 is
unwritten at index 1, and one whose S1 is. -/
theorem witness_UnwrittenReadsStopTheModel :
    (let s := (body 2 0 32 0 []).writeFrom .s0 0 [7]
     s.ready .body ∧ 1 < s.frame.blockSize ∧ s.holds .s0 [7] ∧ s.readScratch .s0 1 = none ∧
     s.frame.chasgn.toNat ≤ 7 ∧ s.inDepth [7]) ∧
    (let u := predictor (body 2 0 32 0 []) .lpc 1 0
     u.ready .body ∧ u.pcfg.kind = .lpc ∧ u.pcfg.legal = true ∧
     u.pcfg.negativeShift = false ∧ 0 < u.pcfg.order.toNat ∧ u.coefValid 0 = false) ∧
    (let s := (predictor (body 4 0 32 0 []) .fixed 2 0).writeFrom .s0 1 [1]
     s.ready .body ∧ s.pcfg.legal = true ∧ s.pcfg.negativeShift = false ∧ s.pcfg.kind ≠ .lpc ∧
     s.pcfg.order.toNat < s.frame.blockSize ∧ 0 < s.pcfg.order.toNat ∧ s.readScratch .s0 0 = none ∧
     s.readScratch .s0 1 ≠ none) ∧
    (let s := (predictor (body 4 0 32 0 []) .fixed 2 0).writeFrom .s0 0 [1, 1]
     ¬2 < s.pcfg.order.toNat ∧ 2 < s.frame.blockSize ∧ s.readScratch .s0 0 ≠ none ∧ s.readScratch .s0 1 ≠ none ∧
     s.readScratch .s0 2 = none) ∧
    (let s := ((body 2 8 16 0 []).writeFrom .s0 0 [5]).writeFrom .s1 0 [1, 2]
     let u := ((body 2 8 16 0 []).writeFrom .s0 0 [5, 6]).writeFrom .s1 0 [1]
     s.ready .body ∧ 8 ≤ s.frame.chasgn.toNat ∧ 1 < s.frame.blockSize ∧ s.holds .s0 [5] ∧ s.holds .s1 [1] ∧
     s.inDepth (List.zipWith (decorrelateLeft s.frame.chasgn) [5] [1]) ∧ s.readScratch .s0 1 = none ∧
     u.holds .s0 [5] ∧ u.holds .s1 [1] ∧ u.readScratch .s0 1 ≠ none ∧ u.readScratch .s1 1 = none) := by decide +kernel
theorem witness_EmitWritesTheChannelWindow :
    let s := (body 3 1 16 10 []).writeFrom .s0 0 [5, -32768, 32767]
    s.ready .body ∧ s.frame.chasgn.toNat ≤ 7 ∧ 1 ≤ s.frame.chasgn.toNat ∧ s.frame.blockSize = 3 ∧
    s.holds .s0 [5, -32768, 32767] ∧ s.inDepth [5, -32768, 32767] := by decide +kernel
theorem witness_EmitStopsAtFirstSampleOutOfRange :
    let s := (body 3 1 16 10 []).writeFrom .s0 0 [5, -32769, 32767]
    s.ready .body ∧ s.frame.chasgn.toNat ≤ 7 ∧ 1 ≤ s.frame.chasgn.toNat ∧ 1 < s.frame.blockSize ∧
    s.holds .s0 ([5] ++ [-32769]) ∧ s.inDepth [5] ∧ ¬s.inDepth [-32769] := by decide +kernel
/-- EM7, EM8 and DC7. -/
theorem witness_OutputCommandsCheckTheChannelAssignment :
    (body 1 1 16 0 []).ready .body ∧ (body 1 1 16 0 []).frame.chasgn.toNat < 2 ∧
    (body 1 8 16 0 []).ready .body ∧ 7 < (body 1 8 16 0 []).frame.chasgn.toNat ∧
    (body 1 7 16 0 []).frame.chasgn.toNat < 8 := by decide
/-- DC3. -/
theorem witness_DecorWritesBothChannels :
    let s := ((body 2 9 16 0 []).writeFrom .s0 0 [-3, 7]).writeFrom .s1 0 [1, 10]
    s.ready .body ∧ 8 ≤ s.frame.chasgn.toNat ∧ s.frame.blockSize = 2 ∧ s.holds .s0 [-3, 7] ∧ s.holds .s1 [1, 10] ∧
    s.inDepth (List.zipWith (decorrelateLeft s.frame.chasgn) [-3, 7] [1, 10]) ∧
    s.inDepth (List.zipWith (decorrelateRight s.frame.chasgn) [-3, 7] [1, 10]) := by decide +kernel
/-- A left output out of range behind one in range, mode 9 (as DC6 and DC8); and DC5. -/
theorem witness_DecorStopsAtFirstOutputOutOfRange :
    (let s := ((body 2 9 8 0 []).writeFrom .s0 0 [1, 1]).writeFrom .s1 0 [-1, 127]
     s.ready .body ∧ 8 ≤ s.frame.chasgn.toNat ∧ 1 < s.frame.blockSize ∧ s.holds .s0 ([1] ++ [1]) ∧
     s.holds .s1 ([-1] ++ [127]) ∧ s.inDepth (List.zipWith (decorrelateLeft s.frame.chasgn) [1] [-1]) ∧
     ¬s.inDepth [decorrelateLeft s.frame.chasgn 1 127]) ∧
    let s := ((body 2 8 8 0 []).writeFrom .s0 0 [127, -128]).writeFrom .s1 0 [-1, 1]
    s.ready .body ∧ 8 ≤ s.frame.chasgn.toNat ∧ s.frame.blockSize = 2 ∧ s.holds .s0 [127, -128] ∧
    s.holds .s1 [-1, 1] ∧ s.inDepth (List.zipWith (decorrelateLeft s.frame.chasgn) [127, -128] [-1, 1]) ∧
    (List.zipWith (decorrelateRight s.frame.chasgn) [127, -128] [-1, 1])[0]? = some 128 ∧ ¬s.inDepth [128] := by decide +kernel
theorem witness_DecorrelationRestoresTheChannels :
    -(2 ^ 31 : Int) ≤ -(2 ^ 31) ∧ (-(2 ^ 31) : Int) < 2 ^ 31 ∧ -(2 ^ 31 : Int) ≤ 2 ^ 31 - 1 ∧
    (2 ^ 31 - 1 : Int) < 2 ^ 31 := by decide
/-- FE3: four padding bits, then the CRC field. -/
theorem witness_FendClosesTheFrame :
    afterTwelveBits.ready .body ∧ (8 - afterTwelveBits.input.bitPos.toNat % 8) % 8 = 4 ∧
    afterTwelveBits.input.bits =
      List.replicate 4 false ++ natBits 16 (afterTwelveBits.input.advanceBy 4).crc16.toNat ++ [] ∧
    ((afterTwelveBits.input.advanceBy 20).bitPos - afterTwelveBits.fsbit).toNat / 8 ≤ 2 ^ 31 - 1 := by decide +kernel
/-- FE4, FE2 and FE6: the last with FSBIT 2^40 bits behind. -/
theorem witness_FendReportsPaddingThenCrcThenSize :
    let bad := (fed [0xA5, 0x11, 0x00, 0x00]).input.advanceBy 12
    let wrong := (fed [0xA5, 0x12, 0x34, 0xE4, 0x80]).input.advanceBy 24
    let big := { afterTwelveBits with fsbit := -(2 ^ 40) }
    (body 1 0 8 0 []).ready .body ∧ (8 - bad.bitPos.toNat % 8) % 8 = 4 ∧ bitsValue (bad.bits.take 4) ≠ 0 ∧
    (8 - wrong.bitPos.toNat % 8) % 8 = 0 ∧ 16 ≤ wrong.bits.length ∧
    bitsValue ((wrong.bits.drop 0).take 16) ≠ wrong.crc16.toNat ∧ big.ready .body ∧
    bitsValue ((big.input.bits.drop 4).take 16) = (big.input.advanceBy 4).crc16.toNat ∧
    2 ^ 31 - 1 < ((big.input.advanceBy 20).bitPos - big.fsbit).toNat / 8 := by decide +kernel
theorem witness_FrameControlFrame :
    (∃ t, exec .nop State.reset = .next t) ∧ (∃ t, exec .fcfg (header 1 0 8 1 0 1) = .next t) ∧
    (∃ t, exec .fstart State.reset = .next t) ∧
    seen (exec .fstart { State.reset with pace := [0] }) State.busy = some true :=
  ⟨⟨_, rfl⟩, ⟨_, rfl⟩, ⟨_, rfl⟩, by decide⟩
/-- A GETB that completes with a value, one that completes at a frame boundary, a FEND that closes the frame, one that is
rejected and one that pauses. -/
theorem witness_GetbAndFendFrame :
    seen (exec (.getb 14) (fed [0xFF, 0xF8])) (fun t => t.rdata) = some 0x3FFE ∧
    seen (exec (.getb 8) (fed [])) (fun t => t.flags.eos) = some true ∧
    seen (exec .fend afterTwelveBits) (fun t => (t.mode, t.fsize)) = some (.idle, 4) ∧
    seen (exec .fend (State.reset.errorEntry 0 .argumentError)) (fun t => t.flags.rej) = some true ∧
    seen (exec .fend { afterTwelveBits with pace := [3] }) State.busy = some true := by decide +kernel
theorem witness_ResidFrame :
    (landing (exec (.resid .s0) (body 4 0 32 0 [0x03, 0xC0]))).isSome = true := by decide
theorem witness_ReconAndWshlFrame :
    (landing (exec (.recon .s0) ((predictor (body 2 0 32 0 []) .fixed 1 0).writeFrom .s0 0 [5, 1]))).isSome = true ∧
    (landing (exec (.wshl .s0 2) ((body 2 0 32 0 []).writeFrom .s0 0 [5, 1]))).isSome = true := by decide
theorem witness_EmitAndDecorFrame :
    (landing (exec (.emit .s0 0) ((body 1 0 8 0 []).writeFrom .s0 0 [5]))).isSome = true ∧
    (landing (exec .decor (((body 1 10 16 0 []).writeFrom .s0 0 [100]).writeFrom .s1 0 [4]))).isSome = true := by decide
theorem witness_SoftResetEqualsHardReset :
    { waiting with events := [.write 0x004 0x80000000] }.events = .write 0x004 0x80000000 :: [] ∧
    (0x80000000 : Word).getLsbD 31 = true := by decide
theorem witness_HostAccessesWhileBusy :
    waiting.task ≠ none ∧ registerAt 0x004 = some .ctrl ∧ (7 : Word).getLsbD 31 = false ∧ registerAt 0x008 = some .status ∧ registerAt 0x018 = some .cmd ∧
    registerAt 0x0FC = some (.coef 31) ∧ (0x0FC : BitVec 12).toNat % 4 = 0 := by decide
theorem witness_FrameRegistersAreLockedInBody :
    (body 4 0 8 0 []).task = none ∧ (body 4 0 8 0 []).mode = .body ∧ State.reset.task = none ∧
    State.reset.mode ≠ .body := by decide
theorem witness_UnsupportedAccessesAndReservedOffsets :
    (0x009 : BitVec 12).toNat % 4 ≠ 0 ∧ (0x058 : BitVec 12).toNat % 4 = 0 ∧ 0x054 < (0x058 : BitVec 12).toNat ∧
    (0x07C : BitVec 12).toNat < 0x080 ∧ 0x0FC < (0x100 : BitVec 12).toNat := by decide
theorem witness_ScratchPortProtocol :
    State.reset.task = none ∧ (State.reset.writeScratch .s0 0 9).readScratch .s0 0 = some 9 ∧
    State.reset.readScratch State.reset.saddr.sel State.reset.saddr.idx.toNat = none := by decide
theorem witness_RdsReturnsWhatWrsWrote :
    { State.reset with events := wrs .s1 65535 (-2) ++ rds .s1 65535 }.task = none ∧ 65535 < 65536 := by decide
/-- Not BUSY, in BODY and elsewhere; the two ends of the COEF array. -/
theorem witness_HostReadsAndWritesOfEveryRegister :
    (body 4 0 8 0 []).task = none ∧ (body 4 0 8 0 []).mode = .body ∧ State.reset.task = none ∧
    State.reset.mode ≠ .body ∧ (0x7FFFFFFF : Word).getLsbD 31 = false ∧
    BitVec.ofNat 12 (0x080 + 4 * 0) = 0x080 ∧ BitVec.ofNat 12 (0x080 + 4 * 31) = 0x0FC := by decide
/-- A state in BODY that meets the invariant, and a step from it. -/
theorem witness_EveryStepKeepsTheInvariant :
    (body 4 0 8 0 [0xFF]).Inv ∧ ∃ t, step (body 4 0 8 0 [0xFF]) = .next t :=
  ⟨⟨rfl, rfl, rfl, by decide, fun _ => by decide, by decide, fun t h => by cases h⟩, _, rfl⟩
theorem witness_AnsweredCommandsStop :
    (fed [0xFF]).task = none ∧ (fed [0xFF]).pace = [] ∧ (fed [0xFF]).input.source.ended = true ∧
    (landing (exec (.getb 8) (fed [0xFF]))).isSome = true := by decide

end Sys2Proof.Tests
end

section
/-! The GETB family with its field at hand (R104, R105, R112), and what a field of bits is worth as a number. -/

namespace Sys2Proof.Machine

/-! ### The number a field of bits stands for -/

/-- The sum that reading a field builds up from `acc` (R104). -/
theorem foldl_bits_eq (bs : List Bool) (acc : Nat) :
    bs.foldl (fun a b => 2 * a + b.toNat) acc = acc * 2 ^ bs.length + bitsValue bs := by
  induction bs generalizing acc with
  | nil => simp [bitsValue]
  | cons b bs ih =>
    simp only [bitsValue, List.foldl_cons, List.length_cons] at ih ⊢
    rw [ih (2 * acc + b.toNat), ih (2 * 0 + b.toNat)]
    ring

theorem bitsValue_cons (b : Bool) (bs : List Bool) :
    bitsValue (b :: bs) = b.toNat * 2 ^ bs.length + bitsValue bs := by
  simpa [bitsValue] using foldl_bits_eq bs b.toNat

theorem bitsValue_lt (bs : List Bool) : bitsValue bs < 2 ^ bs.length := by
  induction bs with
  | nil => simp [bitsValue]
  | cons b bs ih =>
    rw [bitsValue_cons, List.length_cons, Nat.pow_succ]
    cases b <;> simp <;> omega

/-- The first bit of a field is the sign bit of its number. -/
theorem bitsValue_cons_testBit (b : Bool) (bs : List Bool) : (bitsValue (b :: bs)).testBit bs.length = b := by
  rw [bitsValue_cons, Nat.mul_comm, Nat.testBit_two_pow_mul_add _ (bitsValue_lt bs)]
  cases b <;> simp

/-- `sext_n` of a field of `n ≥ 1` bits (R11, R105): less 2^n when the first bit is 1. -/
theorem sext_bitsValue {bs : List Bool} (h : bs ≠ []) :
    sext bs.length (bitsValue bs) =
      if bs.head? = some true then (bitsValue bs : Int) - 2 ^ bs.length else bitsValue bs := by
  obtain ⟨b, bs, rfl⟩ := List.exists_cons_of_ne_nil h
  simp only [sext, List.length_cons, Nat.succ_ne_zero, if_false, Nat.add_sub_cancel, bitsValue_cons_testBit,
    List.head?_cons, Option.some.injEq]

/-! ### GETB and GETBS with all their bits at hand -/

/-- An undisturbed GETB or GETBS of 1 to 32 bits that are at hand reads them, sets RDATA and completes (R112). -/
theorem run_getbStart {s : State} {n : Nat} (signed : Bool) (hpace : s.pace = []) (h1 : 1 ≤ n) (h32 : n ≤ 32)
    (hbits : n ≤ s.input.bits.length) :
    s.run (.getbStart signed n) = .next
      { s with
        rdata := getbResult signed n (bitsValue (s.input.bits.take n))
        input := s.input.advanceBy n }.complete := by
  have hburst : n + 2 ≤ Config.maxBurst := by unfold Config.maxBurst; omega
  obtain ⟨m, hm⟩ : ∃ m, Config.maxBurst = n + (m + 1) + 1 := ⟨Config.maxBurst - (n + 2), by omega⟩
  have hstart : advance (.getbStart signed n) s = .go (.reading n 0 (.getb signed n)) s := by
    simp only [advance, advanceGetbStart, if_neg (show ¬32 < n by omega), if_neg (show ¬n = 0 by omega)]
  rw [State.run_undisturbed hpace, hm, drive_go hstart, drive_reading _ _ _ _ hbits,
    drive_done (advance_reading_zero _ _ _)]
  rfl

/-- Settles O19: the field is read by `run_getbStart`, and its number is `sext_bitsValue`'s. -/
theorem getbsReadsSignedField : Obligations.GetbsReadsSignedField := by
  intro s n ⟨hlegal, htask, hpace⟩ h1 h32 hbits
  have hissue : exec (.getbs n) s = s.run (.getbStart true n) := State.issue_ok htask hlegal 0x3 _
  have hlen : (s.input.bits.take n).length = n := List.length_take_of_le hbits
  have hne : s.input.bits.take n ≠ [] := List.ne_nil_of_length_pos (by omega)
  have hsign : sext n (bitsValue (s.input.bits.take n)) =
      if s.input.bits.head? = some true then (bitsValue (s.input.bits.take n) : Int) - 2 ^ n
      else bitsValue (s.input.bits.take n) := by
    simpa [hlen, List.head?_take, show n ≠ 0 by omega] using sext_bitsValue hne
  rw [hissue, run_getbStart true hpace h1 h32 hbits]
  simp only [getbResult, if_true, hsign, State.complete, htask]

end Sys2Proof.Machine
end

section
/-! The running CRCs (R107 to R109). -/

namespace Sys2Proof.Machine

/-- R107's equation for the CRC-16. -/
theorem crc16Update_eq (c : BitVec 16) (bit : Bool) :
    crc16Update c bit = (c <<< 1) ^^^ (if (bit ^^ c.getLsbD 15) = true then 0x8005 else 0) := by
  unfold crc16Update Config.crc16Poly
  split
  · rfl
  · exact BitVec.xor_zero.symm

/-- R107's equation for the CRC-8. -/
theorem crc8Update_eq (c : BitVec 8) (bit : Bool) :
    crc8Update c bit = (c <<< 1) ^^^ (if (bit ^^ c.getLsbD 7) = true then 0x07 else 0) := by
  unfold crc8Update Config.crc8Poly
  split
  · rfl
  · exact BitVec.xor_zero.symm

/-- A message bit equal to the register's top bit shifts that bit out. -/
theorem crc16Update_msb (c : BitVec 16) : crc16Update c (c.getMsbD 0) = c <<< 1 := by
  simp [crc16Update, BitVec.getMsbD]

/-- The polynomial is odd, so a message bit that differs from the top bit leaves a 1 at the low end. -/
theorem crc16Update_getMsbD_15 (c : BitVec 16) (b : Bool) : (crc16Update c b).getMsbD 15 = (b ^^ c.getMsbD 0) := by
  have h0 : c.getMsbD 0 = c.getLsbD 15 := by simp [BitVec.getMsbD]
  rw [crc16Update_eq, h0]
  cases b ^^ c.getLsbD 15 <;> simp [BitVec.getMsbD]

/-- At most 16 message bits bring a CRC-16 register to 0 exactly when they are its bits from the top, with zeros after
them: a bit that differs from the top bit sets the low bit, and the bits that are left do not reach it. -/
theorem foldl_crc16Update_eq_zero_iff {bs : List Bool} (h : bs.length ≤ 16) (c : BitVec 16) :
    bs.foldl crc16Update c = 0 ↔ ∀ i : Nat, c.getMsbD i = bs.getD i false := by
  induction bs generalizing c with
  | nil =>
    simp only [List.foldl_nil, List.getD_nil]
    exact ⟨fun hc _ => hc ▸ BitVec.getMsbD_zero,
      fun hc => BitVec.eq_of_getMsbD_eq fun i _ => (hc i).trans BitVec.getMsbD_zero.symm⟩
  | cons b bs ih =>
    have hlen : bs.length < 16 := h
    rw [List.foldl_cons, ih hlen.le]
    by_cases htop : b = c.getMsbD 0
    · subst htop
      refine Iff.trans ?_ Nat.and_forall_add_one
      simp only [crc16Update_msb, BitVec.getMsbD_shiftLeft, List.getD_cons_zero, List.getD_cons_succ, true_and]
    · refine iff_of_false (fun hu => htop ?_) (fun hc => htop (hc 0).symm)
      have h15 := hu 15
      rw [crc16Update_getMsbD_15, List.getD_eq_default _ _ (by omega)] at h15
      simpa using h15

/-- A word as a field of stream bits, most significant first. -/
theorem natBits_toNat_getD {w : Nat} (v : BitVec w) (i : Nat) : (natBits w v.toNat).getD i false = v.getMsbD i := by
  by_cases hi : i < w <;> simp [natBits, List.getD_eq_getElem?_getD, BitVec.getMsbD, BitVec.testBit_toNat, hi]

/-- Settles O24: the last part is `foldl_crc16Update_eq_zero_iff` with the 16 bits of `v`. -/
theorem crcUpdatesFollowTheirPolynomials : Obligations.CrcUpdatesFollowTheirPolynomials := by
  refine ⟨crc16Update_eq, crc8Update_eq, by decide +kernel, by decide +kernel, fun c v => ?_⟩
  rw [foldl_crc16Update_eq_zero_iff (by simp [natBits])]
  simp only [natBits_toNat_getD]
  exact ⟨fun h => BitVec.eq_of_getMsbD_eq fun i _ => (h i).symm, fun h i => by rw [h]⟩

end Sys2Proof.Machine
end

section
/-! What one sequencer step can do, in the terms of the command it belongs to (its OP): the layer under the invariant and
the frames. -/

namespace Sys2Proof.Machine

/-! ### Post-conditions of a sequencer step -/

/-- What holds wherever a sequencer step leads: `go` of the next point and state, `done` of the state of a completion,
`raise` of an error and its state. A wait and a model fault lead to no other state. -/
def Advance.Post (go : Task → State → Prop) (done : State → Prop) (raise : RdbError → State → Prop) : Advance → Prop
  | .go t s => go t s
  | .done s => done s
  | .raise e s => raise e s
  | .wait => True
  | .fault _ => True

theorem Advance.Post.mono {go go' : Task → State → Prop} {done done' : State → Prop} {raise raise' : RdbError → State → Prop}
    {a : Advance} (h : a.Post go done raise) (hgo : ∀ t s, go t s → go' t s) (hdone : ∀ s, done s → done' s)
    (hraise : ∀ e s, raise e s → raise' e s) : a.Post go' done' raise' := by
  cases a with
  | go t s => exact hgo t s h
  | done s => exact hdone s h
  | raise e s => exact hraise e s h
  | wait | fault => trivial

/-- The induction over a running command, with the sequencer step's cases in one post-condition. -/
theorem drive_next_of_post {P : Task → State → Prop} {Q : State → Prop}
    (step : ∀ t s, P t s →
      (advance t s).Post P (fun u => Q u.complete) (fun e u => Q (u.errorEntry t.op e)))
    (pause : ∀ t s, P t s → Q { s with task := some t })
    {n : Nat} {t : Task} {s u : State} (hP : P t s) (h : drive n t s = .next u) : Q u := by
  refine drive_next_induction (P := P) (fun t s t' s' hP ha => ?_) (fun t s s' hP ha => ?_)
    (fun t s e s' hP ha => ?_) pause n t s u hP h <;>
  · have := step t s hP
    rwa [ha] at this

/-! ### The commands by their OP -/

/-- The commands that read stream bits: GETB, RESID and FEND. -/
abbrev readsBits (op : BitVec 4) : Prop := op = 0x3 ∨ op = 0x4 ∨ op = 0x9

/-- The commands that write scratch: RESID, RECON and WSHL. -/
abbrev writesScratch (op : BitVec 4) : Prop := op = 0x4 ∨ op = 0x5 ∨ op = 0x6

/-- The commands that write the caller's buffer: EMIT and DECOR. -/
abbrev writesOut (op : BitVec 4) : Prop := op = 0x7 ∨ op = 0x8

/-- The change a sequencer step of a command makes to the state before the command ends. -/
inductive Effect (op : BitVec 4) (s : State) : State → Prop where
  | same : Effect op s s
  | bit {v : Bool} {p : BitInput} (hop : readsBits op) (read : s.input.readBit = .bit v p) :
      Effect op s { s with input := p }
  | scratch (hop : writesScratch op) (b : Buf) (i : Nat) (v : Sample) : Effect op s (s.writeScratch b i v)
  | out (hop : writesOut op) (ch i : Nat) (v : Word) : Effect op s (s.outWrite ch i v)

/-- The change the last sequencer step of a command makes, but for DONE and BUSY. -/
inductive Ending (s : State) : BitVec 4 → State → Prop where
  | same {op : BitVec 4} : Ending s op s
  | frameOpen : Ending s 0x1 s.openFrame
  | bodyOpen (legal : s.frame.firstError = none) : Ending s 0x2 { s with mode := .body }
  | value (w : Word) : Ending s 0x3 { s with rdata := w }
  | noMoreFrames (boundary : s.atFrameBoundary = true) : Ending s 0x3 s.noMoreFrames
  | tagsCleared : Ending s 0x5 { s with coefTag := Vector.replicate 32 false }
  | frameClosed (size : Word) : Ending s 0x9 { s with fsize := size, mode := .idle }

/-- A point of the same command: its OP, and the states R77 allows it in. -/
def Task.sameCommand (t t' : Task) : Prop := t'.op = t.op ∧ ∀ m : BlockState, t'.allowedIn m = t.allowedIn m

/-- The post-condition every sequencer step meets. -/
abbrev Advance.KeepsCommand (t : Task) (s : State) (a : Advance) : Prop :=
  a.Post (fun t' s' => t.sameCommand t' ∧ Effect t.op s s') (Ending s t.op) (fun _ s' => Effect t.op s s')

theorem emitSample_keepsCommand {t next : Task} (s : State) (ch i : Nat) (v : Sample) (hop : writesOut t.op)
    (hnext : t.sameCommand next) : (s.emitSample ch i v next).KeepsCommand t s := by
  unfold State.emitSample
  split
  · exact ⟨hnext, .out hop _ _ _⟩
  · exact .same

theorem finishRead_keepsCommand (use : Purpose) (v : Nat) (s : State) :
    (finishRead use v s).KeepsCommand (.reading 0 v use) s := by
  cases use with
  | getb signed n => exact .value _
  | method b =>
    simp only [finishRead, finishMethod]
    split
    · exact .same
    · exact ⟨⟨rfl, fun _ => rfl⟩, .same⟩
  | partitionOrder b wide =>
    simp only [finishRead, finishPartitionOrder]
    split
    · exact .same
    · split
      · exact .same
      · exact ⟨⟨rfl, fun _ => rfl⟩, .same⟩
  | parameter here =>
    simp only [finishRead, finishParameter]
    split <;> exact ⟨⟨rfl, fun _ => rfl⟩, .same⟩
  | rawWidth here => exact ⟨⟨rfl, fun _ => rfl⟩, .same⟩
  | rawResidual here w => exact ⟨⟨rfl, fun _ => rfl⟩, .scratch (.inl rfl) _ _ _⟩
  | remainder here k q => exact ⟨⟨rfl, fun _ => rfl⟩, .scratch (.inl rfl) _ _ _⟩
  | padding =>
    simp only [finishRead, finishPadding]
    split
    · exact .same
    · exact ⟨⟨rfl, fun _ => rfl⟩, .same⟩
  | footerCrc want =>
    simp only [finishRead, finishFooterCrc]
    split
    · exact .same
    · split
      · exact .same
      · exact .frameClosed _

theorem Purpose.op_readsBits (use : Purpose) : readsBits use.op := by cases use <;> simp [Purpose.op, readsBits]

theorem endOfStream_keepsCommand (s : State) (left acc : Nat) (use : Purpose) :
    (s.endOfStream left use).KeepsCommand (.reading left acc use) s := by
  unfold State.endOfStream
  split
  · split
    · next h => exact .noMoreFrames h.2
    · exact .same
  · exact .same

theorem advanceReading_keepsCommand (left acc : Nat) (use : Purpose) (s : State) :
    (advanceReading left acc use s).KeepsCommand (.reading left acc use) s := by
  cases left with
  | zero => exact finishRead_keepsCommand use acc s
  | succ rest =>
    simp only [advanceReading]
    split
    · next h => exact ⟨⟨rfl, fun _ => rfl⟩, .bit use.op_readsBits h⟩
    · exact endOfStream_keepsCommand s _ acc use
    · trivial

theorem advanceUnary_keepsCommand (here : ResidPos) (k q : Nat) (s : State) :
    (advanceUnary here k q s).KeepsCommand (.unary here k q) s := by
  have hop : readsBits (Task.op (.unary here k q)) := .inr (.inl rfl)
  unfold advanceUnary
  split
  · next h => exact ⟨⟨rfl, fun _ => rfl⟩, .bit hop h⟩
  · next h =>
    split
    · exact .bit hop h
    · exact ⟨⟨rfl, fun _ => rfl⟩, .bit hop h⟩
  · exact .same
  · trivial

/-- Everything a sequencer step can do: it goes on inside its command with one effect, ends it, raises, waits or meets a
model fault. -/
theorem advance_keepsCommand (t : Task) (s : State) : (advance t s).KeepsCommand t s := by
  cases t with
  | nop => exact .same
  | fstart => exact .frameOpen
  | fcfg =>
    simp only [advance, advanceFcfg]
    split
    · exact .same
    · next h => exact .bodyOpen h
  | getbStart signed n =>
    simp only [advance, advanceGetbStart]
    split
    · exact .same
    · split
      · exact .value 0
      · exact ⟨⟨rfl, fun _ => rfl⟩, .same⟩
  | reading left acc use => exact advanceReading_keepsCommand left acc use s
  | residStart b =>
    simp only [advance, advanceResidStart]
    split
    · exact .same
    · split
      · exact .same
      · exact ⟨⟨rfl, fun _ => rfl⟩, .same⟩
  | partition here =>
    simp only [advance, advancePartition]
    split
    · exact ⟨⟨rfl, fun _ => rfl⟩, .same⟩
    · exact .same
  | escaped here w =>
    simp only [advance, advanceEscaped]
    split <;> exact ⟨⟨rfl, fun _ => rfl⟩, .same⟩
  | rice here k =>
    simp only [advance, advanceRice]
    split <;> exact ⟨⟨rfl, fun _ => rfl⟩, .same⟩
  | unary here k q => exact advanceUnary_keepsCommand here k q s
  | reconStart b =>
    simp only [advance, advanceReconStart]
    split
    · exact .same
    · split
      · exact .same
      · split
        · exact ⟨⟨rfl, fun _ => rfl⟩, .same⟩
        · trivial
  | recon b i c sh =>
    simp only [advance, advanceRecon]
    split
    · split
      · trivial
      · split
        · trivial
        · exact ⟨⟨rfl, fun _ => rfl⟩, .scratch (.inr (.inl rfl)) _ _ _⟩
    · exact .tagsCleared
  | wshl b k i =>
    simp only [advance, advanceWshl]
    split
    · split
      · trivial
      · exact ⟨⟨rfl, fun _ => rfl⟩, .scratch (.inr (.inr rfl)) _ _ _⟩
    · exact .same
  | emitStart b ch =>
    simp only [advance, advanceEmitStart]
    split
    · exact .same
    · exact ⟨⟨rfl, fun _ => rfl⟩, .same⟩
  | emit b ch i =>
    simp only [advance, advanceEmit]
    split
    · split
      · trivial
      · exact emitSample_keepsCommand s _ _ _ (.inl rfl) ⟨rfl, fun _ => rfl⟩
    · exact .same
  | decorStart =>
    simp only [advance, advanceDecorStart]
    split
    · exact .same
    · exact ⟨⟨rfl, fun _ => rfl⟩, .same⟩
  | decorLeft i =>
    simp only [advance, advanceDecorLeft]
    split
    · split
      · trivial
      · exact emitSample_keepsCommand s _ _ _ (.inr rfl) ⟨rfl, fun _ => rfl⟩
    · exact ⟨⟨rfl, fun _ => rfl⟩, .same⟩
  | decorRight i =>
    simp only [advance, advanceDecorRight]
    split
    · split
      · trivial
      · exact emitSample_keepsCommand s _ _ _ (.inr rfl) ⟨rfl, fun _ => rfl⟩
    · exact .same
  | fendStart => exact ⟨⟨rfl, fun _ => rfl⟩, .same⟩
  | raising op e => exact .same

end Sys2Proof.Machine
end

section
/-! The machine's invariant (R48, R58, R77, R98, R147, R151). -/

namespace Sys2Proof.Machine

/-! ### Commands as issued -/

/-- R77's row of a command. -/
def legalityOf : Instr → BlockState → Legality
  | .nop | .getb _ | .getbs _ => legalWhileRunning
  | .fstart => legalFstart
  | .fcfg => legalFcfg
  | .resid _ | .recon _ | .wshl _ _ | .emit _ _ | .decor | .fend => legalInBody

/-- The first step of a command's rule. -/
def startOf : Instr → Task
  | .nop => .nop
  | .fstart => .fstart
  | .fcfg => .fcfg
  | .getb n => .getbStart false n
  | .getbs n => .getbStart true n
  | .resid b => .residStart b
  | .recon b => .reconStart b
  | .wshl b k => .wshl b k 0
  | .emit b ch => .emitStart b ch
  | .decor => .decorStart
  | .fend => .fendStart

theorem exec_eq_issue (i : Instr) (s : State) : exec i s = s.issue (legalityOf i) (opcodeOf i) (startOf i) := by
  cases i <;> rfl

@[simp] theorem startOf_op (i : Instr) : (startOf i).op = opcodeOf i := by cases i <;> rfl

theorem startOf_allowedIn {i : Instr} {m : BlockState} (h : legalityOf i m = .ok) : (startOf i).allowedIn m = true := by
  cases i <;> exact decide_eq_true h

/-- A violation is found outside ERROR and FATAL only (R77). -/
theorem legalWhileRunning_of_violation {i : Instr} {m : BlockState} (h : legalityOf i m = .violation) :
    legalWhileRunning m = .ok := by
  cases m with
  | idle | hdr | body => rfl
  | error | fatal => cases i <;> cases h

/-! ### The invariant at reset -/

/-- Settles O57: every part of the invariant is evaluated at reset. -/
theorem resetMeetsTheInvariant : Obligations.ResetMeetsTheInvariant where
  scratch0_wf := rfl
  scratch1_wf := rfl
  out_wf := rfl
  bufLeft_eq := rfl
  frame_legal := nofun
  latch := rfl
  task_allowed := nofun

/-! ### The invariant while a command runs -/

/-- The invariant with a command in progress: what a running command keeps. -/
abbrev State.InvAt (t : Task) (s : State) : Prop := State.Inv { s with task := some t }

theorem State.InvAt.allowed {t : Task} {s : State} (h : s.InvAt t) : t.allowedIn s.mode = true := h.task_allowed t rfl

theorem State.Inv.scratch_wf {s : State} (h : s.Inv) (b : Buf) : (s.scratch b).wf = true := by
  cases b
  · exact h.scratch0_wf
  · exact h.scratch1_wf

theorem State.Inv.writeScratch {s : State} (h : s.Inv) (b : Buf) (i : Nat) (v : Sample) : (s.writeScratch b i v).Inv :=
  have hwf := State.writeScratch_wf h.scratch_wf i v
  { scratch0_wf := hwf .s0
    scratch1_wf := hwf .s1
    out_wf := by simpa using h.out_wf
    bufLeft_eq := by simpa using h.bufLeft_eq
    frame_legal := by simpa using h.frame_legal
    latch := by simpa [State.latchAgrees] using h.latch
    task_allowed := by simpa using h.task_allowed }

theorem State.Inv.outWrite {s : State} (h : s.Inv) (ch i : Nat) (v : Word) : (s.outWrite ch i v).Inv :=
  { h with out_wf := Memory.write_wf h.out_wf _ v }

/-- A command's step to another point of the command keeps the invariant. -/
theorem State.InvAt.go {t t' : Task} {s s' : State} (h : s.InvAt t) (hcmd : t.sameCommand t') (he : Effect t.op s s') :
    s'.InvAt t' := by
  have hs : State.InvAt t' s := { h with task_allowed := fun u hu => by cases hu; rw [hcmd.2]; exact h.allowed }
  cases he with
  | same => exact hs
  | bit _ read => exact { hs with bufLeft_eq := BitInput.readBit_padding read h.bufLeft_eq }
  | scratch _ b i v =>
    cases b with
    | s0 => exact State.Inv.writeScratch hs .s0 i v
    | s1 => exact State.Inv.writeScratch hs .s1 i v
  | out _ ch i v => exact State.Inv.outWrite hs ch i v

/-- With no command in progress the invariant says one thing less. -/
theorem State.InvAt.withoutTask {t : Task} {s : State} (h : s.InvAt t) : State.Inv { s with task := none } :=
  { h with task_allowed := nofun }

/-- Outside the error states the latch holds no code. -/
theorem State.Inv.code_eq_zero {s : State} (h : s.Inv) (hm : legalWhileRunning s.mode = .ok) : s.err.code = 0 := by
  have hl := h.latch
  unfold State.latchAgrees at hl
  split at hl
  · exact of_decide_eq_true hl
  · exact of_decide_eq_true hl
  · exact of_decide_eq_true hl
  · next he => rw [he] at hm; cases hm
  · next he => rw [he] at hm; cases hm

/-- Only FSTART may be in progress in an error state (R77). -/
theorem Task.running_of_allowedIn {t : Task} {m : BlockState} (hop : t.op ≠ 0x1) (h : t.allowedIn m = true) :
    legalWhileRunning m = .ok := by
  cases m with
  | idle | hdr | body => rfl
  | error | fatal =>
    cases t with
    | fstart => exact absurd rfl hop
    | reading _ _ use => cases use <;> cases h
    | _ => cases h

/-- Error entry leaves the latch and STATE in agreement (R147, R148). -/
theorem State.errorEntry_latchAgrees (s : State) (op : BitVec 4) (e : RdbError) :
    (s.errorEntry op e).latchAgrees = true := by
  cases e <;> rfl

theorem RdbError.target_ne_body (e : RdbError) : e.target ≠ .body := by
  cases e <;> simp [RdbError.target, RdbError.code]

theorem State.InvAt.errorEntry {t : Task} {s : State} (h : s.InvAt t) (op : BitVec 4) (e : RdbError) :
    (s.errorEntry op e).Inv :=
  { h with
    frame_legal := fun hm => absurd hm e.target_ne_body
    latch := s.errorEntry_latchAgrees op e
    task_allowed := nofun }

/-- FSTART's alignment discards BUFLEFT bits, up to the byte boundary (R97). -/
theorem BitInput.align_padding {p : BitInput} (h : p.bufLeft = p.padding) : p.align.bufLeft = p.align.padding := by
  have hpos : (p.bitPos + BitVec.ofNat 64 p.bufLeft).toNat % 8 = (p.bitPos.toNat + p.bufLeft) % 8 := by
    simp
  unfold BitInput.padding at *
  simp only [BitInput.align, hpos]
  omega

/-- A command's completion keeps the invariant. -/
theorem State.InvAt.complete {t : Task} {s s' : State} (h : s.InvAt t) (he : Ending s t.op s') : s'.complete.Inv := by
  have hs : State.Inv s.complete := { h.withoutTask with }
  have hcode : t.op ≠ 0x1 → s.err.code = 0 := fun hop => h.code_eq_zero (Task.running_of_allowedIn hop h.allowed)
  generalize t.op = op at he hcode
  cases he with
  | same | value | tagsCleared => exact { hs with }
  | frameOpen =>
    exact
      { hs with
        scratch0_wf := rfl
        scratch1_wf := rfl
        bufLeft_eq := BitInput.align_padding h.bufLeft_eq
        frame_legal := nofun
        latch := rfl
        task_allowed := nofun }
  | bodyOpen legal =>
    exact
      { hs with
        frame_legal := fun _ => legal
        latch := decide_eq_true (hcode (by decide))
        task_allowed := nofun }
  | noMoreFrames | frameClosed =>
    exact
      { hs with
        frame_legal := nofun
        latch := decide_eq_true (hcode (by decide))
        task_allowed := nofun }

/-- A command that runs from its task keeps the invariant, wherever it stops. -/
theorem State.InvAt.run {t : Task} {s u : State} (h : s.InvAt t) (hrun : s.run t = .next u) : u.Inv := by
  refine drive_next_of_post (P := fun t s => State.InvAt t s) (fun t s hs => ?_) (fun t s hs => hs)
    (show State.InvAt t { s with pace := s.pace.tail } from { h with }) hrun
  exact (advance_keepsCommand t s).mono (fun t' s' h => hs.go h.1 h.2) (fun s' h => hs.complete h)
    (fun e s' h => (hs.go ⟨rfl, fun _ => rfl⟩ h).errorEntry t.op e)

theorem State.Inv.resume {s u : State} (h : s.Inv) (hrun : s.resume = .next u) : u.Inv := by
  unfold State.resume at hrun
  split at hrun
  · cases hrun; exact h
  · next t ht => exact State.InvAt.run { h with task_allowed := fun t' h' => by cases h'; exact h.task_allowed t ht } hrun

/-! ### Issue and host accesses -/

theorem State.Inv.reject {s : State} (h : s.Inv) : s.reject.Inv := { h with }

theorem State.Inv.issue {s u : State} (h : s.Inv) {legal : BlockState → Legality} {op : BitVec 4} {t : Task}
    (hok : legal s.mode = .ok → t.allowedIn s.mode = true)
    (hviolation : legal s.mode = .violation → legalWhileRunning s.mode = .ok)
    (hnext : s.issue legal op t = .next u) : u.Inv := by
  obtain ⟨-, hi⟩ | ⟨-, hl, hi⟩ | ⟨-, hl, hi⟩ := s.issue_cases legal op t <;> rw [hi] at hnext
  · cases hnext; exact h.reject
  · exact State.InvAt.run { h with task_allowed := fun t' h' => by cases h'; exact hok hl } hnext
  · refine State.InvAt.run { h with task_allowed := fun t' h' => ?_ } hnext
    cases h'
    exact decide_eq_true (hviolation hl)

theorem State.Inv.issueWord {s u : State} (h : s.Inv) {w : Word} (hnext : issueWord w s = .next u) : u.Inv := by
  unfold Machine.issueWord at hnext
  split at hnext
  · next i hi =>
    rw [exec_eq_issue] at hnext
    exact h.issue startOf_allowedIn legalWhileRunning_of_violation hnext
  · exact h.issue decide_eq_true (fun hv => legalWhileRunning_of_violation (i := .nop) hv) hnext

/-- A reset meets the invariant as the reset state does; the caller's buffer it leaves alone. -/
theorem State.Inv.resetBlock {s : State} (h : s.Inv) : s.resetBlock.Inv :=
  { show State.reset.Inv from resetMeetsTheInvariant with out_wf := h.out_wf }

theorem State.Inv.writeFrame {s : State} (h : s.Inv) (f : FrameConfig) : (s.writeFrame f).Inv := by
  rw [State.writeFrame_eq]
  split
  · exact h.reject
  · next hm => exact { h with frame_legal := fun hb => absurd hb hm }

theorem State.Inv.writeAccepted {s : State} (h : s.Inv) (r : Reg) (v : Word) : (s.writeAccepted r v).Inv := by
  cases r with
  | ctrl =>
    simp only [State.writeAccepted]
    split
    · exact h.resetBlock
    · exact { h with }
  | blksize | fmt | outoff | outlen | outch => exact h.writeFrame _
  | sdataLo => exact { h.writeScratch s.saddr.sel s.saddr.idx.toNat (s.whi ++ v) with }
  | _ => exact { h with }

theorem State.Inv.hostWrite {s u : State} (h : s.Inv) {off : BitVec 12} {v : Word}
    (hnext : hostWrite off v s = .next u) : u.Inv := by
  unfold Machine.hostWrite at hnext
  split at hnext
  · split at hnext
    · next r _ =>
      cases hnext
      obtain ⟨-, -, hw⟩ | ⟨-, hw⟩ := s.writeRegister_cases r v <;> rw [hw]
      · exact h.reject
      · exact h.writeAccepted r v
    · cases hnext; exact h
  · cases hnext

theorem State.Inv.hostRead {s u : State} (h : s.Inv) {off : BitVec 12} (hnext : hostRead off s = .next u) : u.Inv := by
  unfold Machine.hostRead at hnext
  split at hnext
  · split at hnext
    · next r _ =>
      obtain ⟨-, -, hr⟩ | ⟨-, ⟨-, hr⟩ | ⟨-, hr⟩ | ⟨-, -, hr⟩⟩ := s.readRegister_cases r <;> rw [hr] at hnext
      · cases hnext; exact { h with }
      · unfold State.readSdataLo at hnext
        split at hnext <;> cases hnext
        exact { h with }
      · cases hnext; exact { h with }
      · cases hnext; exact { h with }
    · cases hnext; exact { h with }
  · cases hnext

theorem State.Inv.bufferRead {s : State} (h : s.Inv) (ch idx : Nat) : (s.bufferRead ch idx).Inv := by
  unfold State.bufferRead
  split <;> exact { h with }

theorem State.Inv.outsideEvent {s u : State} (h : s.Inv) {e : Event} (hnext : outsideEvent e s = .next u) : u.Inv := by
  cases e with
  | write off v => exact h.hostWrite hnext
  | read off => exact h.hostRead hnext
  | narrow => cases hnext
  | hardReset => cases hnext; exact h.resetBlock
  | sourceByte | sourceEnd | reposition => cases hnext; exact { h with }
  | bufferWrite ch idx v => cases hnext; exact h.outWrite ch.toNat idx.toNat v
  | bufferRead ch idx => cases hnext; exact h.bufferRead ch.toNat idx.toNat

theorem State.Inv.perform {s u : State} (h : s.Inv) {e : Event} (hnext : perform e s = .next u) : u.Inv := by
  unfold Machine.perform at hnext
  split at hnext
  · exact h.issueWord hnext
  · exact h.outsideEvent hnext

/-- Settles O58: an event keeps the invariant (`State.Inv.perform`), and so does the command that goes on after it
(`State.Inv.resume`). -/
theorem everyStepKeepsTheInvariant : Obligations.EveryStepKeepsTheInvariant := by
  intro s t h hnext
  cases he : s.events with
  | nil => exact h.resume (step_no_event he ▸ hnext)
  | cons e rest =>
    have hs : State.Inv { s with events := rest } := { h with }
    by_cases hb : s.task = none
    · exact hs.perform (step_idle he hb ▸ hnext)
    · rw [step_busy he hb] at hnext
      cases hp : Machine.perform e { s with events := rest } with
      | next u => rw [hp] at hnext; exact (hs.perform hp).resume hnext
      | fault | refused => rw [hp] at hnext; cases hnext

end Sys2Proof.Machine
end

section
/-! What a command leaves unchanged, whichever way it stops in a next state: the frames of O42 to O46. -/

namespace Sys2Proof.Machine

/-! ### A command under way -/

/-- `u` is `s` with what the sequencer steps of a command of OP `op` may have changed by a point inside the command. -/
def Running (op : BitVec 4) (s u : State) : Prop :=
  ∃ pace input scratch0 scratch1 out,
    u = { s with pace := pace, input := input, scratch0 := scratch0, scratch1 := scratch1, out := out } ∧
    (¬readsBits op → input = s.input) ∧ (¬writesScratch op → scratch0 = s.scratch0 ∧ scratch1 = s.scratch1) ∧
    (¬writesOut op → out = s.out)

theorem Running.start (op : BitVec 4) (s : State) : Running op s { s with pace := s.pace.tail } :=
  ⟨_, _, _, _, _, rfl, fun _ => rfl, fun _ => ⟨rfl, rfl⟩, fun _ => rfl⟩

theorem Running.step {op : BitVec 4} {s u u' : State} (h : Running op s u) (he : Effect op u u') : Running op s u' := by
  obtain ⟨_, _, _, _, _, rfl, hinput, hscratch, hout⟩ := h
  cases he with
  | same => exact ⟨_, _, _, _, _, rfl, hinput, hscratch, hout⟩
  | bit hop => exact ⟨_, _, _, _, _, rfl, fun hn => absurd hop hn, hscratch, hout⟩
  | scratch hop b =>
    cases b <;> exact ⟨_, _, _, _, _, rfl, hinput, fun hn => absurd hop hn, hout⟩
  | out hop => exact ⟨_, _, _, _, _, rfl, hinput, hscratch, fun hn => absurd hop hn⟩

/-- The ways the issue of a command stops in a next state. -/
inductive Stop (i : Instr) (s : State) : State → Prop where
  | rejected (why : s.task ≠ none ∨ legalityOf i s.mode = .rejected) : Stop i s s.reject
  | paused {u : State} (t : Task) (idle : s.task = none) (running : Running (opcodeOf i) s u) :
      Stop i s { u with task := some t }
  | completed {u v : State} (idle : s.task = none) (legal : legalityOf i s.mode = .ok)
      (running : Running (opcodeOf i) s u) (ending : Ending u (opcodeOf i) v) : Stop i s v.complete
  | raised {u : State} (op : BitVec 4) (e : RdbError) (idle : s.task = none) (legal : legalityOf i s.mode ≠ .rejected)
      (running : Running (opcodeOf i) s u) : Stop i s (u.errorEntry op e)

/-- A command that is about to raise an error of the issue checks raises it, unless a pause comes first. -/
theorem drive_raising {n : Nat} {op : BitVec 4} {e : RdbError} {s t : State}
    (h : drive n (.raising op e) s = .next t) :
    t = { s with task := some (.raising op e) } ∨ t = s.errorEntry op e := by
  cases n with
  | zero => cases h; exact .inl rfl
  | succ n => cases h; exact .inr rfl

/-- Whenever a command answers a next state, it has stopped in one of the ways `Stop` lists. -/
theorem exec_stop {i : Instr} {s t : State} (h : exec i s = .next t) : Stop i s t := by
  rw [exec_eq_issue] at h
  obtain ⟨hb, hi⟩ | ⟨ht, hl, hi⟩ | ⟨ht, hl, hi⟩ := s.issue_cases (legalityOf i) (opcodeOf i) (startOf i) <;>
    rw [hi] at h
  · cases h
    exact .rejected (hb.imp_left fun hb => by simpa [State.busy, Option.isSome_iff_ne_none] using hb)
  · refine drive_next_of_post (P := fun x u => x.op = opcodeOf i ∧ Running (opcodeOf i) s u) (fun x u hu => ?_)
      (fun x u hu => .paused x ht hu.2) ⟨startOf_op i, .start _ s⟩ h
    obtain ⟨hop, hu⟩ := hu
    exact (advance_keepsCommand x u).mono (fun x' u' h => ⟨h.1.1.trans hop, hu.step (hop ▸ h.2)⟩)
      (fun v h => .completed ht hl hu (hop ▸ h)) (fun e u' h => .raised _ e ht (by rw [hl]; decide) (hu.step (hop ▸ h)))
  · obtain rfl | rfl := drive_raising h
    · exact .paused _ ht (.start _ s)
    · exact .raised _ _ ht (by rw [hl]; decide) (.start _ s)

/-! ### DONE, REJ, the error latch and STATE -/

/-- The states a command's completion enters. -/
def endsOf (op : BitVec 4) : List BlockState :=
  if op = 0x2 then [.body] else if op = 0x3 ∨ op = 0x9 then [.idle] else []

/-- What a completion may change beside the flags' DONE and BUSY. -/
theorem Ending.status {op : BitVec 4} {u v : State} (h : Ending u op v) (hop : op ≠ 0x1) :
    v.err = u.err ∧ v.flags.rej = u.flags.rej ∧ (v.mode = u.mode ∨ v.mode ∈ endsOf op) := by
  cases h with
  | same | value | tagsCleared => exact ⟨rfl, rfl, .inl rfl⟩
  | frameOpen => exact absurd rfl hop
  | bodyOpen | noMoreFrames | frameClosed => exact ⟨rfl, rfl, .inr (by simp [endsOf])⟩

theorem legalWhileRunning_of_not_rejected {i : Instr} {m : BlockState} (hi : i ≠ .fstart)
    (h : legalityOf i m ≠ .rejected) : legalWhileRunning m = .ok := by
  cases m with
  | idle | hdr | body => rfl
  | error | fatal =>
    cases i with
    | fstart => exact absurd rfl hi
    | _ => exact absurd rfl h

theorem opcodeOf_ne_fstart {i : Instr} (hi : i ≠ .fstart) : opcodeOf i ≠ 0x1 := by
  cases i with
  | fstart => exact absurd rfl hi
  | _ => simp [opcodeOf]

theorem RdbError.target_error_or_fatal (e : RdbError) : e.target = .error ∨ e.target = .fatal := by
  cases e <;> simp [RdbError.target, RdbError.code]

/-- R20, R94, R151, R154 for every command but FSTART. -/
theorem Stop.statusKept {i : Instr} {s t : State} (h : Stop i s t) (hi : i ≠ .fstart) :
    s.statusKept t (endsOf (opcodeOf i)) := by
  cases h with
  | rejected why =>
    refine ⟨.inl rfl, fun ht he hf => ?_, .inl ⟨rfl, .inl rfl⟩⟩
    have hm := why.resolve_left (absurd ht)
    cases hmode : s.mode with
    | idle | hdr | body => rw [hmode] at hm; cases i <;> cases hm
    | error => exact absurd hmode he
    | fatal => exact absurd hmode hf
  | paused x _ running =>
    obtain ⟨_, _, _, _, _, rfl, -⟩ := running
    exact ⟨.inl rfl, fun _ _ _ => rfl, .inl ⟨rfl, .inl rfl⟩⟩
  | completed _ _ running ending =>
    obtain ⟨_, _, _, _, _, rfl, -⟩ := running
    obtain ⟨herr, hrej, hmode⟩ := ending.status (opcodeOf_ne_fstart hi)
    exact ⟨.inr ⟨rfl, rfl⟩, fun _ _ _ => hrej, .inl ⟨herr, hmode.imp_right fun hm => ⟨hm, rfl, rfl⟩⟩⟩
  | raised op e _ legal running =>
    obtain ⟨_, _, _, _, _, rfl, -⟩ := running
    have hlive := legalWhileRunning_of_not_rejected hi legal
    have hne : e.target ≠ s.mode := by
      intro heq
      rw [← heq] at hlive
      obtain ht | ht := e.target_error_or_fatal <;> rw [ht] at hlive <;> cases hlive
    exact ⟨.inl rfl, fun _ _ _ => rfl, .inr ⟨rfl, rfl, hne, e.target_error_or_fatal⟩⟩

/-- EOS is GETB's and GETBS's alone (R20, R110). -/
theorem Ending.eos {op : BitVec 4} {u v : State} (h : Ending u op v) (hop : op ≠ 0x3) : v.flags.eos = u.flags.eos := by
  cases h with
  | noMoreFrames => exact absurd rfl hop
  | _ => rfl

theorem Stop.eos {i : Instr} {s t : State} (h : Stop i s t) (hop : opcodeOf i ≠ 0x3) : t.flags.eos = s.flags.eos := by
  cases h with
  | rejected => rfl
  | paused _ _ running | raised _ _ _ _ running => obtain ⟨_, _, _, _, _, rfl, -⟩ := running; rfl
  | completed _ _ running ending =>
    obtain ⟨_, _, _, _, _, rfl, -⟩ := running
    exact ending.eos hop

/-! ### The fields a command leaves alone -/

/-- Which fields a command of OP `op` other than FSTART may change: the fields not named below stay, and of those named
each changes for the commands whose rule writes it. -/
structure Frame (op : BitVec 4) (s t : State) : Prop where
  fields : t = { s with
    flags := t.flags, err := t.err, mode := t.mode, task := t.task, pace := t.pace, input := t.input, rdata := t.rdata,
    fsize := t.fsize, scratch0 := t.scratch0, scratch1 := t.scratch1, coefTag := t.coefTag, out := t.out }
  input : ¬readsBits op → t.input = s.input
  scratch0 : ¬writesScratch op → t.scratch0 = s.scratch0
  scratch1 : ¬writesScratch op → t.scratch1 = s.scratch1
  out : ¬writesOut op → t.out = s.out
  rdata : op ≠ 0x3 → t.rdata = s.rdata
  coefTag : op ≠ 0x5 → t.coefTag = s.coefTag
  fsize : op ≠ 0x9 → t.fsize = s.fsize

theorem Running.frame {op : BitVec 4} {s u : State} (h : Running op s u) : Frame op s u := by
  obtain ⟨_, _, _, _, _, rfl, hinput, hscratch, hout⟩ := h
  exact ⟨rfl, hinput, fun h => (hscratch h).1, fun h => (hscratch h).2, hout, fun _ => rfl, fun _ => rfl, fun _ => rfl⟩

/-- A completion adds at most the command's own register to the fields changed. -/
theorem Frame.ending {op : BitVec 4} {s u v : State} (h : Frame op s u) (he : Ending u op v) (hop : op ≠ 0x1) :
    Frame op s v := by
  obtain ⟨hfields, hinput, hs0, hs1, hout, hrdata, htag, hfsize⟩ := h
  rw [hfields] at he
  cases he with
  | frameOpen => exact absurd rfl hop
  | same | bodyOpen | noMoreFrames => exact ⟨rfl, hinput, hs0, hs1, hout, hrdata, htag, hfsize⟩
  | value => exact ⟨rfl, hinput, hs0, hs1, hout, fun h => absurd rfl h, htag, hfsize⟩
  | tagsCleared => exact ⟨rfl, hinput, hs0, hs1, hout, hrdata, fun h => absurd rfl h, hfsize⟩
  | frameClosed => exact ⟨rfl, hinput, hs0, hs1, hout, hrdata, htag, fun h => absurd rfl h⟩

/-- A change of the status alone stays in the frame. -/
theorem Frame.status {op : BitVec 4} {s u : State} (h : Frame op s u) (flags : Flags) (err : ErrorLatch)
    (mode : BlockState) (task : Option Task) :
    Frame op s { u with flags := flags, err := err, mode := mode, task := task } := by
  obtain ⟨hfields, hinput, hs0, hs1, hout, hrdata, htag, hfsize⟩ := h
  refine ⟨?_, hinput, hs0, hs1, hout, hrdata, htag, hfsize⟩
  rw [hfields]

theorem Stop.frame {i : Instr} {s t : State} (h : Stop i s t) (hi : i ≠ .fstart) : Frame (opcodeOf i) s t := by
  cases h with
  | rejected =>
    exact ⟨rfl, fun _ => rfl, fun _ => rfl, fun _ => rfl, fun _ => rfl, fun _ => rfl, fun _ => rfl, fun _ => rfl⟩
  | paused _ _ running => exact running.frame.status _ _ _ _
  | completed _ _ running ending => exact (running.frame.ending ending (opcodeOf_ne_fstart hi)).status _ _ _ _
  | raised _ _ _ _ running => exact running.frame.status _ _ _ _

/-! ### NOP, FSTART and FCFG -/

/-- An FSTART is rejected, is still to come, or has opened the frame (R97). -/
theorem execFstart_cases {s t : State} (h : exec .fstart s = .next t) :
    (t = s.reject ∧ (s.task ≠ none ∨ s.mode = .fatal)) ∨ t = { s with task := some .fstart, pace := s.pace.tail } ∨
      (s.task = none ∧ s.mode ≠ .fatal ∧ t = { s with pace := s.pace.tail }.openFrame.complete) := by
  rw [exec_eq_issue] at h
  obtain ⟨hb, hi⟩ | ⟨ht, hl, hi⟩ | ⟨ht, hl, hi⟩ := s.issue_cases (legalityOf .fstart) (opcodeOf .fstart) (startOf .fstart) <;>
    rw [hi] at h
  · cases h
    refine .inl ⟨rfl, hb.imp (fun hb => ?_) fun hl => ?_⟩
    · simpa [State.busy, Option.isSome_iff_ne_none] using hb
    · cases hm : s.mode <;> rw [hm] at hl <;> cases hl
  · unfold State.run at h
    cases hb : s.burst with
    | zero => rw [hb] at h; cases h; exact .inr (.inl rfl)
    | succ n =>
      rw [hb] at h
      cases h
      exact .inr (.inr ⟨ht, fun hm => (by rw [hm] at hl; cases hl), rfl⟩)
  · cases hm : s.mode <;> rw [hm] at hl <;> cases hl

/-- Settles O42: NOP and FCFG by the frame of every command, FSTART by its three ways to stop. -/
theorem frameControlFrame : Obligations.FrameControlFrame := by
  refine ⟨fun s t i hi h => ?_, fun s t h => ?_⟩
  · have hstop := exec_stop h
    obtain rfl | rfl := hi
    all_goals
      have hf := hstop.frame (by decide)
      refine ⟨hf.fields.trans ?_, hstop.eos (by decide), hstop.statusKept (by decide)⟩
      rw [hf.input (by decide), hf.scratch0 (by decide), hf.scratch1 (by decide), hf.out (by decide),
        hf.rdata (by decide), hf.coefTag (by decide), hf.fsize (by decide)]
  · obtain ⟨rfl, why⟩ | rfl | ⟨ht, hm, rfl⟩ := execFstart_cases h
    · exact ⟨rfl, rfl, rfl, rfl, fun ht hm => absurd why (by simp [ht, hm]), .inl ⟨rfl, rfl⟩⟩
    · exact ⟨rfl, rfl, rfl, rfl, fun _ _ => rfl, .inl ⟨rfl, rfl⟩⟩
    · exact ⟨rfl, rfl, rfl, rfl, fun _ _ => rfl, .inr ⟨ht, hm, rfl, rfl, rfl⟩⟩

/-! ### GETB, GETBS and FEND -/

theorem State.mode_of_atFrameBoundary {s : State} (h : s.atFrameBoundary = true) : s.mode = .idle ∨ s.mode = .hdr := by
  unfold State.atFrameBoundary at h
  split at h
  · next hm => exact .inl hm
  · next hm => exact .inr hm
  all_goals cases h

/-- A command that ends without a completion leaves RDATA, FSIZE and EOS. -/
theorem Stop.registers_or_completed {i : Instr} {s t : State} (h : Stop i s t) :
    (t.rdata = s.rdata ∧ t.fsize = s.fsize ∧ t.flags.eos = s.flags.eos) ∨
      ∃ u v, s.task = none ∧ legalityOf i s.mode = .ok ∧ Running (opcodeOf i) s u ∧ Ending u (opcodeOf i) v ∧
        t = v.complete := by
  cases h with
  | rejected => exact .inl ⟨rfl, rfl, rfl⟩
  | paused _ _ running | raised _ _ _ _ running =>
    obtain ⟨_, _, _, _, _, rfl, -⟩ := running
    exact .inl ⟨rfl, rfl, rfl⟩
  | completed idle legal running ending => exact .inr ⟨_, _, idle, legal, running, ending, rfl⟩

/-- R31, R110: the two ways a GETB or GETBS completes. -/
theorem Stop.getb_registers {i : Instr} {s t : State} (h : Stop i s t) (hop : opcodeOf i = 0x3) :
    (t.rdata = s.rdata ∨
      (s.task = none ∧ t.task = none ∧ t.flags.done = true ∧ t.mode = s.mode ∧ t.flags.eos = s.flags.eos)) ∧
    (t.flags.eos = s.flags.eos ∨
      (s.task = none ∧ (s.mode = .idle ∨ s.mode = .hdr) ∧ t.mode = .idle ∧ t.task = none ∧ t.flags.done = true ∧
        t.rdata = s.rdata)) := by
  obtain ⟨hrdata, -, heos⟩ | ⟨u, v, idle, -, ⟨_, _, _, _, _, rfl, -⟩, ending, rfl⟩ := h.registers_or_completed
  · exact ⟨.inl hrdata, .inl heos⟩
  · rw [hop] at ending
    cases ending with
    | same => exact ⟨.inl rfl, .inl rfl⟩
    | value => exact ⟨.inr ⟨idle, rfl, rfl, rfl, rfl⟩, .inl rfl⟩
    | noMoreFrames boundary =>
      have hmode := State.mode_of_atFrameBoundary boundary
      exact ⟨.inl rfl, .inr ⟨idle, hmode, rfl, rfl, rfl, rfl⟩⟩

/-- R42: FSIZE changes when a FEND completes. -/
theorem Stop.fend_fsize {s t : State} (h : Stop .fend s t) :
    t.fsize = s.fsize ∨ (s.task = none ∧ s.mode = .body ∧ t.mode = .idle ∧ t.task = none ∧ t.flags.done = true) := by
  obtain ⟨-, hfsize, -⟩ | ⟨u, v, idle, legal, ⟨_, _, _, _, _, rfl, -⟩, ending, rfl⟩ := h.registers_or_completed
  · exact .inl hfsize
  · cases ending with
    | same => exact .inl rfl
    | frameClosed =>
      refine .inr ⟨idle, ?_, rfl, rfl, rfl⟩
      cases hm : s.mode <;> rw [hm] at legal <;> cases legal

/-- Settles O43: the frame and the status of every command, with the registers of `Stop.getb_registers` and
`Stop.fend_fsize`. -/
theorem getbAndFendFrame : Obligations.GetbAndFendFrame := by
  refine ⟨fun s t n i hi h => ?_, fun s t h => ?_⟩
  · have hstop := exec_stop h
    have hop : opcodeOf i = 0x3 := by obtain rfl | rfl := hi <;> rfl
    have hf := hstop.frame (by rintro rfl; simp at hi)
    have hstatus := hstop.statusKept (by rintro rfl; simp at hi)
    rw [hop] at hf hstatus
    refine ⟨hf.fields.trans ?_, hstatus, hstop.getb_registers hop⟩
    rw [hf.scratch0 (by decide), hf.scratch1 (by decide), hf.out (by decide), hf.coefTag (by decide),
      hf.fsize (by decide)]
  · have hstop := exec_stop h
    have hf := hstop.frame (by decide)
    refine ⟨hf.fields.trans ?_, hstop.eos (by decide), hstop.statusKept (by decide), hstop.fend_fsize⟩
    rw [hf.scratch0 (by decide), hf.scratch1 (by decide), hf.out (by decide), hf.coefTag (by decide),
      hf.rdata (by decide)]

end Sys2Proof.Machine
end

section
/-! Where RESID, RECON and WSHL write scratch, and where EMIT and DECOR write the caller's buffer (R64, R65, R124, R131). -/

namespace Sys2Proof.Machine

/-! ### Scratch -/

/-- `u` differs from `s` in scratch at most in buffer `b` from index `lo` to N − 1, with the same configuration. -/
structure ScratchKept (s : State) (b : Buf) (lo : Nat) (u : State) : Prop where
  frame : u.frame = s.frame
  pcfg : u.pcfg = s.pcfg
  kept : ∀ c i, (c ≠ b ∨ i < lo ∨ s.frame.blockSize ≤ i) → u.readScratch c i = s.readScratch c i

theorem ScratchKept.write {s u : State} {b : Buf} {lo i : Nat} (h : ScratchKept s b lo u) (hlo : lo ≤ i)
    (hi : i < s.frame.blockSize) (v : Sample) : ScratchKept s b lo (u.writeScratch b i v) where
  frame := by simpa using h.frame
  pcfg := by simpa using h.pcfg
  kept c j hj := by
    rw [State.readScratch_writeScratch, if_neg (by rintro ⟨rfl, rfl⟩; simp at hj; omega)]
    exact h.kept c j hj

theorem ScratchKept.input {s u : State} {b : Buf} {lo : Nat} (h : ScratchKept s b lo u) (p : BitInput) :
    ScratchKept s b lo { u with input := p } := { h with }

/-- A place in a residual section for buffer `b` from which no residual below `lo` is stored: R117 is what keeps the
first partition's end above ORDER. -/
structure ResidPos.Within (here : ResidPos) (s : State) (b : Buf) (lo : Nat) : Prop where
  buf : here.buf = b
  first : lo ≤ here.idx
  count : lo ≤ s.partitionLength here.order

/-- The place is inside a partition. -/
def ResidPos.Inside (here : ResidPos) (s : State) (b : Buf) (lo : Nat) : Prop :=
  here.Within s b lo ∧ here.part < 2 ^ here.order

/-- The place is at a residual of a partition. -/
def ResidPos.AtResidual (here : ResidPos) (s : State) (b : Buf) (lo : Nat) : Prop :=
  here.Inside s b lo ∧ here.idx < s.partitionEnd here

/-- The use of a field RESID reads, with its place. -/
def Purpose.WritesFrom (s : State) (b : Buf) (lo : Nat) : Purpose → Prop
  | .method c => c = b ∧ lo ≤ s.pcfg.order.toNat
  | .partitionOrder c _ => c = b ∧ lo ≤ s.pcfg.order.toNat
  | .parameter here => here.Inside s b lo
  | .rawWidth here => here.Inside s b lo
  | .rawResidual here _ => here.AtResidual s b lo
  | .remainder here _ _ => here.AtResidual s b lo
  | _ => False

/-- The points of RESID, RECON and WSHL from which scratch is written in buffer `b` from index `lo` on only. -/
def Task.WritesFrom (s : State) (b : Buf) (lo : Nat) : Task → Prop
  | .residStart c => c = b ∧ lo ≤ s.pcfg.order.toNat
  | .reading _ _ use => use.WritesFrom s b lo
  | .partition here => here.Within s b lo
  | .escaped here _ => here.Inside s b lo
  | .rice here _ => here.Inside s b lo
  | .unary here _ _ => here.AtResidual s b lo
  | .reconStart c => c = b ∧ lo ≤ s.pcfg.order.toNat
  | .recon c i _ _ => c = b ∧ lo ≤ i
  | .wshl c _ i => c = b ∧ lo ≤ i
  | _ => False

/-- Every partition ends at N or below it (R116). -/
theorem State.partitionEnd_le {s : State} {here : ResidPos} (h : here.part < 2 ^ here.order) :
    s.partitionEnd here ≤ s.frame.blockSize :=
  calc s.partitionEnd here ≤ 2 ^ here.order * (s.frame.blockSize / 2 ^ here.order) := Nat.mul_le_mul_right _ h
    _ ≤ s.frame.blockSize := Nat.mul_div_le _ _

/-- The post-condition of a sequencer step that writes scratch in buffer `b` from `lo` to N − 1 only. -/
abbrev Advance.KeepsScratch (s : State) (b : Buf) (lo : Nat) (a : Advance) : Prop :=
  a.Post (fun t u => t.WritesFrom s b lo ∧ ScratchKept s b lo u) (ScratchKept s b lo) (fun _ u => ScratchKept s b lo u)

section
variable {s u : State} {b : Buf} {lo : Nat}

theorem ScratchKept.partitionLength (h : ScratchKept s b lo u) (order : Nat) :
    u.partitionLength order = s.partitionLength order := by simp [State.partitionLength, h.frame]

theorem ScratchKept.partitionEnd (h : ScratchKept s b lo u) (here : ResidPos) :
    u.partitionEnd here = s.partitionEnd here := by simp [State.partitionEnd, h.partitionLength]

/-- The next partition starts where this one ends, which is not below the first partition's end. -/
theorem ResidPos.Inside.nextPartition {here : ResidPos} (h : here.Inside s b lo) (hu : ScratchKept s b lo u) :
    (u.nextPartition here).Within s b lo where
  buf := h.1.buf
  first := by
    simp only [State.nextPartition, State.partitionEnd, hu.partitionLength]
    exact h.1.count.trans (Nat.le_mul_of_pos_left _ (Nat.succ_pos _))
  count := h.1.count

/-- A residual is stored and the next index begins. -/
theorem ResidPos.AtResidual.store {here : ResidPos} (h : here.AtResidual s b lo) (hu : ScratchKept s b lo u) (v : Sample) :
    ResidPos.Inside { here with idx := here.idx + 1 } s b lo ∧
      ScratchKept s b lo (u.writeScratch here.buf here.idx v) := by
  obtain ⟨⟨⟨rfl, hfirst, hcount⟩, hpart⟩, hend⟩ := h
  exact ⟨⟨⟨rfl, hfirst.trans (Nat.le_succ _), hcount⟩, hpart⟩,
    hu.write hfirst (hend.trans_le (State.partitionEnd_le hpart)) v⟩

theorem finishRead_keepsScratch {use : Purpose} (ht : use.WritesFrom s b lo) (hu : ScratchKept s b lo u) (v : Nat) :
    (finishRead use v u).KeepsScratch s b lo := by
  cases use with
  | getb | padding | footerCrc => exact ht.elim
  | method c =>
    simp only [finishRead, finishMethod]
    split
    · exact hu
    · exact ⟨ht, hu⟩
  | partitionOrder c wide =>
    simp only [finishRead, finishPartitionOrder]
    split
    · exact hu
    · split
      · exact hu
      · next hlen =>
        rw [hu.partitionLength, hu.pcfg, Nat.not_lt] at hlen
        exact ⟨⟨ht.1, by rw [hu.pcfg]; exact ht.2, ht.2.trans hlen⟩, hu⟩
  | parameter here =>
    simp only [finishRead, finishParameter]
    split <;> exact ⟨ht, hu⟩
  | rawWidth here => exact ⟨ht, hu⟩
  | rawResidual here w => exact ht.store hu _
  | remainder here k q => exact ht.store hu _

/-- Every step of RESID, RECON and WSHL keeps to its buffer and its indices. -/
theorem advance_keepsScratch {t : Task} (ht : t.WritesFrom s b lo) (hu : ScratchKept s b lo u) :
    (advance t u).KeepsScratch s b lo := by
  cases t with
  | residStart c =>
    simp only [advance, advanceResidStart]
    split
    · exact hu
    · split
      · exact hu
      · exact ⟨ht, hu⟩
  | reading left acc use =>
    cases left with
    | zero => exact finishRead_keepsScratch ht hu acc
    | succ rest =>
      simp only [advance, advanceReading]
      split
      · exact ⟨ht, hu.input _⟩
      · cases use with
        | getb | padding | footerCrc => exact ht.elim
        | _ => exact hu
      · trivial
  | partition here =>
    simp only [advance, advancePartition]
    split
    · next hpart => exact ⟨⟨ht, hpart⟩, hu⟩
    · exact hu
  | escaped here w =>
    simp only [advance, advanceEscaped]
    split
    · next hidx => exact ⟨⟨ht, hu.partitionEnd here ▸ hidx⟩, hu⟩
    · exact ⟨ht.nextPartition hu, hu⟩
  | rice here k =>
    simp only [advance, advanceRice]
    split
    · next hidx => exact ⟨⟨ht, hu.partitionEnd here ▸ hidx⟩, hu⟩
    · exact ⟨ht.nextPartition hu, hu⟩
  | unary here k q =>
    simp only [advance, advanceUnary]
    split
    · exact ⟨ht, hu.input _⟩
    · split
      · exact hu.input _
      · exact ⟨ht, hu.input _⟩
    · exact hu
    · trivial
  | reconStart c =>
    simp only [advance, advanceReconStart]
    split
    · exact hu
    · split
      · exact hu
      · split
        · exact ⟨⟨ht.1, by rw [hu.pcfg]; exact ht.2⟩, hu⟩
        · trivial
  | recon c i cs sh =>
    obtain ⟨rfl, hlo⟩ := ht
    simp only [advance, advanceRecon]
    split
    · next hi =>
      split
      · trivial
      · split
        · trivial
        · exact ⟨⟨rfl, hlo.trans (Nat.le_succ i)⟩, hu.write hlo (hu.frame ▸ hi) _⟩
    · exact { hu with }
  | wshl c k i =>
    obtain ⟨rfl, hlo⟩ := ht
    simp only [advance, advanceWshl]
    split
    · next hi =>
      split
      · trivial
      · exact ⟨⟨rfl, hlo.trans (Nat.le_succ i)⟩, hu.write hlo (hu.frame ▸ hi) _⟩
    · exact hu
  | _ => exact ht.elim

end

/-- What does not depend on the status and the schedule, and is kept by every sequencer step of a command, is kept by the
command, whichever way it stops. -/
theorem exec_keeps {P : Task → Prop} {Q : State → Prop} {i : Instr} {s t : State}
    (status : ∀ u flags err mode task pace,
      Q u → Q { u with flags := flags, err := err, mode := mode, task := task, pace := pace })
    (step : ∀ x u, P x → Q u → (advance x u).Post (fun x u => P x ∧ Q u) Q (fun _ => Q))
    (start : P (startOf i)) (hs : Q s) (h : exec i s = .next t) : Q t := by
  have hpaced : Q { s with pace := s.pace.tail } := status s _ _ _ _ _ hs
  rw [exec_eq_issue] at h
  obtain ⟨-, hi⟩ | ⟨-, -, hi⟩ | ⟨-, -, hi⟩ := s.issue_cases (legalityOf i) (opcodeOf i) (startOf i) <;> rw [hi] at h
  · cases h; exact status s _ _ _ _ _ hs
  · refine drive_next_of_post (P := fun x u => P x ∧ Q u) (fun x u hu => ?_) (fun x u hu => status u _ _ _ _ _ hu.2)
      ⟨start, hpaced⟩ h
    exact (step x u hu.1 hu.2).mono (fun _ _ h => h) (fun v h => status v _ _ _ _ _ h)
      (fun e v h => status v _ _ _ _ _ h)
  · obtain rfl | rfl := drive_raising h
    · exact status s _ _ _ _ _ hs
    · exact status s _ _ _ _ _ hs

theorem exec_keepsScratch {i : Instr} {s t : State} {b : Buf} {lo : Nat} (h : exec i s = .next t)
    (start : (startOf i).WritesFrom s b lo) : ScratchKept s b lo t :=
  exec_keeps (P := Task.WritesFrom s b lo) (fun _ _ _ _ _ _ hu => { hu with })
    (fun _ _ ht hu => advance_keepsScratch ht hu) start ⟨rfl, rfl, fun _ _ _ => rfl⟩ h

/-- Settles O44: the frame of every command, and `exec_keepsScratch` from ORDER on. -/
theorem residFrame : Obligations.ResidFrame := by
  intro s t b h
  have hstop := exec_stop h
  have hf := hstop.frame (by simp)
  have hkept : ScratchKept s b s.pcfg.order.toNat t := exec_keepsScratch h ⟨rfl, le_rfl⟩
  refine ⟨hf.fields.trans ?_, hstop.eos (by simp [opcodeOf]), hstop.statusKept (by simp), hkept.kept⟩
  rw [hf.out (by simp [opcodeOf]), hf.rdata (by simp [opcodeOf]), hf.coefTag (by simp [opcodeOf]),
    hf.fsize (by simp [opcodeOf])]

/-- Settles O45: RECON keeps scratch below ORDER, WSHL writes from index 0 on. -/
theorem reconAndWshlFrame : Obligations.ReconAndWshlFrame := by
  refine ⟨fun s t b h => ?_, fun s t b k h => ?_⟩
  · have hstop := exec_stop h
    have hf := hstop.frame (by simp)
    have hkept : ScratchKept s b s.pcfg.order.toNat t := exec_keepsScratch h ⟨rfl, le_rfl⟩
    refine ⟨hf.fields.trans ?_, hstop.eos (by simp [opcodeOf]), hstop.statusKept (by simp), hkept.kept⟩
    rw [hf.input (by simp [opcodeOf]), hf.out (by simp [opcodeOf]), hf.rdata (by simp [opcodeOf]),
      hf.fsize (by simp [opcodeOf])]
  · have hstop := exec_stop h
    have hf := hstop.frame (by simp)
    have hkept : ScratchKept s b 0 t := exec_keepsScratch h ⟨rfl, le_rfl⟩
    refine ⟨hf.fields.trans ?_, hstop.eos (by simp [opcodeOf]), hstop.statusKept (by simp), fun c i hi => ?_⟩
    · rw [hf.input (by simp [opcodeOf]), hf.out (by simp [opcodeOf]), hf.rdata (by simp [opcodeOf]),
        hf.coefTag (by simp [opcodeOf]), hf.fsize (by simp [opcodeOf])]
    · exact hkept.kept c i (hi.imp_right .inr)

/-! ### The caller's buffer -/

/-- `u` differs from `s` in the caller's buffer at most in the window of the channels `on`, with the same
configuration. -/
structure OutKept (s : State) (on : Nat → Prop) (u : State) : Prop where
  frame : u.frame = s.frame
  kept : ∀ key, (∀ ch i, on ch → i < s.frame.blockSize → key ≠ outKey ch (s.frame.outoff.toNat + i)) →
    u.out.read key = s.out.read key

/-- The points of EMIT and DECOR, by the channels they write. -/
def Task.Emits (on : Nat → Prop) : Task → Prop
  | .emitStart _ ch => on ch
  | .emit _ ch _ => on ch
  | .decorStart => on 0 ∧ on 1
  | .decorLeft _ => on 0 ∧ on 1
  | .decorRight _ => on 0 ∧ on 1
  | _ => False

/-- The post-condition of a sequencer step that writes the window of the channels `on` only. -/
abbrev Advance.KeepsOut (s : State) (on : Nat → Prop) (a : Advance) : Prop :=
  a.Post (fun t u => t.Emits on ∧ OutKept s on u) (OutKept s on) (fun _ u => OutKept s on u)

theorem emitSample_keepsOut {s u : State} {on : Nat → Prop} {ch i : Nat} {next : Task} (hu : OutKept s on u)
    (hch : on ch) (hi : i < u.frame.blockSize) (hnext : next.Emits on) (v : Sample) :
    (u.emitSample ch i v next).KeepsOut s on := by
  unfold State.emitSample
  split
  · refine ⟨hnext, hu.frame, fun key hkey => ?_⟩
    rw [hu.frame] at hi ⊢
    rw [State.outWrite_out, Memory.read_write_other _ (hkey ch i hch hi)]
    exact hu.kept key hkey
  · exact hu

/-- Every step of EMIT and DECOR keeps to its channels' window. -/
theorem advance_keepsOut {s u : State} {on : Nat → Prop} {t : Task} (ht : t.Emits on) (hu : OutKept s on u) :
    (advance t u).KeepsOut s on := by
  cases t with
  | emitStart c ch =>
    simp only [advance, advanceEmitStart]
    split
    · exact hu
    · exact ⟨ht, hu⟩
  | emit c ch i =>
    simp only [advance, advanceEmit]
    split
    · next hi =>
      split
      · trivial
      · exact emitSample_keepsOut (next := .emit c ch (i + 1)) hu ht hi ht _
    · exact hu
  | decorStart =>
    simp only [advance, advanceDecorStart]
    split
    · exact hu
    · exact ⟨ht, hu⟩
  | decorLeft i =>
    simp only [advance, advanceDecorLeft]
    split
    · next hi =>
      split
      · trivial
      · exact emitSample_keepsOut (next := .decorLeft (i + 1)) hu ht.1 hi ht _
    · exact ⟨ht, hu⟩
  | decorRight i =>
    simp only [advance, advanceDecorRight]
    split
    · next hi =>
      split
      · trivial
      · exact emitSample_keepsOut (next := .decorRight (i + 1)) hu ht.2 hi ht _
    · exact hu
  | _ => exact ht.elim

theorem exec_keepsOut {i : Instr} {s t : State} {on : Nat → Prop} (h : exec i s = .next t)
    (start : (startOf i).Emits on) : OutKept s on t :=
  exec_keeps (P := Task.Emits on) (fun _ _ _ _ _ _ hu => { hu with }) (fun _ _ ht hu => advance_keepsOut ht hu) start
    ⟨rfl, fun _ _ => rfl⟩ h

/-- Settles O46: EMIT writes the one channel, DECOR the channels below 2. -/
theorem emitAndDecorFrame : Obligations.EmitAndDecorFrame := by
  refine ⟨fun s t b ch h => ?_, fun s t h => ?_⟩
  · have hstop := exec_stop h
    have hf := hstop.frame (by simp)
    have hkept : OutKept s (· = ch) t := exec_keepsOut h rfl
    refine ⟨hf.fields.trans ?_, hstop.eos (by simp [opcodeOf]), hstop.statusKept (by simp), fun key hkey => ?_⟩
    · rw [hf.input (by simp [opcodeOf]), hf.scratch0 (by simp [opcodeOf]), hf.scratch1 (by simp [opcodeOf]),
        hf.rdata (by simp [opcodeOf]), hf.coefTag (by simp [opcodeOf]), hf.fsize (by simp [opcodeOf])]
    · exact hkept.kept key (by rintro _ i rfl hi; exact hkey i hi)
  · have hstop := exec_stop h
    have hf := hstop.frame (by simp)
    have hkept : OutKept s (· < 2) t := exec_keepsOut h ⟨by decide, by decide⟩
    refine ⟨hf.fields.trans ?_, hstop.eos (by simp [opcodeOf]), hstop.statusKept (by simp), hkept.kept⟩
    rw [hf.input (by simp [opcodeOf]), hf.scratch0 (by simp [opcodeOf]), hf.scratch1 (by simp [opcodeOf]),
      hf.rdata (by simp [opcodeOf]), hf.coefTag (by simp [opcodeOf]), hf.fsize (by simp [opcodeOf])]

end Sys2Proof.Machine
end

section
/-! The step that issues a command, error entry, the state after reset, the interrupt output, and the fixed predictors
written out. -/

namespace Sys2Proof.Machine

/-- Settles O5: the event reaches an idle block and is a write to CMD. -/
theorem stepRunsDecodedCommand : Obligations.StepRunsDecodedCommand := by
  intro s w i rest ht he hdecode
  rw [step_idle he ht, perform_cmd, issueWord, hdecode]

/-- Settles O10: each error by its code, channel, index and state. -/
theorem errorEntryLatchesErrorAndState : Obligations.ErrorEntryLatchesErrorAndState := by
  intro s op e
  cases e with
  | unexpectedEndOfStream i => cases i <;> exact ⟨rfl, rfl, rfl, rfl, rfl, rfl, rfl, rfl, rfl⟩
  | _ => exact ⟨rfl, rfl, rfl, rfl, rfl, rfl, rfl, rfl, rfl⟩

/-- Settles O31: the table's sums of products are the polynomials of R127. -/
theorem fixedPredictorsWrittenOut : Obligations.FixedPredictorsWrittenOut := by
  intro p q u v older
  simp only [prediction, fixedCoefs, List.zipWith_cons_cons, List.zipWith_nil_right, List.sum_cons, List.sum_nil,
    true_and]
  refine ⟨?_, ?_, ?_, ?_⟩ <;> ring

theorem State.reset_readScratch (b : Buf) (i : Nat) : State.reset.readScratch b i = none := by cases b <;> rfl

/-- Settles O47: the register values are computed, scratch is `State.reset_readScratch`. -/
theorem resetValues : Obligations.ResetValues := by
  exact ⟨rfl, rfl, by decide, by decide, by decide, rfl, rfl, rfl, by decide, by decide, rfl, rfl, by decide, by decide,
    by decide, rfl, rfl, rfl, rfl, rfl, rfl, rfl, rfl, rfl, rfl, by decide, State.reset_readScratch, fun _ => ⟨rfl, rfl⟩⟩

/-- ERR is 1 in the two error states (R20). -/
theorem State.errFlag_eq (s : State) : s.errFlag = decide (s.mode = .error ∨ s.mode = .fatal) := by
  unfold State.errFlag
  split <;> simp [*]

/-- Settles O56: ERR is `State.errFlag_eq`. -/
theorem irqIsTheEnabledSources : Obligations.IrqIsTheEnabledSources := by
  intro s
  simp only [State.irq, State.errFlag_eq, Bool.or_eq_true, Bool.and_eq_true, decide_eq_true_eq, or_assoc]

end Sys2Proof.Machine
end

section
/-! Host accesses at the offsets of R21: the register map, reads and writes of an idle and of a BUSY block, reserved
offsets, and the soft reset. -/

namespace Sys2Proof.Machine

/-! ### The register map -/

/-- The register at an aligned offset stands there: `registerAt` and `Reg.offset` are one map (R21). -/
theorem offset_of_registerAt {off : BitVec 12} {r : Reg} (h : registerAt off = some r) (h4 : off.toNat % 4 = 0) :
    r.offset = off := by
  unfold registerAt at h
  split at h
  · cases h
    apply BitVec.eq_of_toNat_eq
    simp only [Reg.offset, BitVec.toNat_ofNat]
    omega
  · obtain ⟨before, after, hmap, -⟩ := List.lookup_eq_some_iff.1 h
    have hmem : (off.toNat, r) ∈ registerMap := by simp [hmap]
    have hoffset : ∀ p ∈ registerMap, p.2.offset.toNat = p.1 := by decide
    exact BitVec.eq_of_toNat_eq (hoffset _ hmem)

/-- The offsets above FSIZE but for COEF0 to COEF31 are reserved (R23). -/
theorem registerAt_reserved {off : BitVec 12} (h4 : off.toNat % 4 = 0) (hlo : 0x054 < off.toNat)
    (hcoef : off.toNat < 0x080 ∨ 0x0FC < off.toNat) : registerAt off = none := by
  unfold registerAt
  rw [if_neg (by omega), List.lookup_eq_none_iff]
  have hmap : ∀ p ∈ registerMap, p.1 ≤ 0x054 := by decide
  intro p hp
  have := hmap p hp
  simp only [bne_iff_ne, ne_eq]
  omega

theorem registerAt_coef {j : Nat} (h : j < 32) : registerAt (BitVec.ofNat 12 (0x080 + 4 * j)) = some (.coef j) := by
  have hoff : (BitVec.ofNat 12 (0x080 + 4 * j)).toNat = 0x080 + 4 * j := by
    rw [BitVec.toNat_ofNat, Nat.mod_eq_of_lt (by omega)]
  rw [registerAt, hoff, if_pos (by omega)]
  congr 2
  omega

/-- CMD has one offset (R21). -/
theorem registerAt_cmd {off : BitVec 12} (h : registerAt off = some .cmd) : off = 0x018 := by
  unfold registerAt at h
  split at h
  · cases h
  · obtain ⟨before, after, hmap, -⟩ := List.lookup_eq_some_iff.1 h
    have hmem : (off.toNat, Reg.cmd) ∈ registerMap := by simp [hmap]
    have hoffset : ∀ p ∈ registerMap, p.2 = .cmd → p.1 = 0x018 := by decide
    exact BitVec.eq_of_toNat_eq (hoffset _ hmem rfl)

/-! ### One access -/

/-- A host write to a register other than CMD. -/
theorem perform_write {off : BitVec 12} {r : Reg} (h4 : aligned off = true) (hr : registerAt off = some r)
    (hcmd : r ≠ .cmd) (v : Word) (s : State) : perform (.write off v) s = .next (s.writeRegister r v) := by
  have hc : Event.commandWord (.write off v) = none := by simp [Event.commandWord, hr, hcmd]
  rw [perform_outside hc]
  simp [outsideEvent, hostWrite, h4, hr]

theorem perform_read {off : BitVec 12} {r : Reg} (h4 : aligned off = true) (hr : registerAt off = some r) (s : State) :
    perform (.read off) s = s.readRegister r := by
  rw [perform_outside rfl]
  simp [outsideEvent, hostRead, h4, hr]

/-- With BUSY = 0 every write is accepted. -/
theorem State.writeRegister_idle {s : State} (h : s.task = none) (r : Reg) (v : Word) :
    s.writeRegister r v = s.writeAccepted r v := by simp [State.writeRegister, State.busy, h]

/-- CTRL and STATUS take a write whether BUSY or not (R56). -/
theorem State.writeRegister_writable {r : Reg} (hr : r.writableWhileBusy = true) (s : State) (v : Word) :
    s.writeRegister r v = s.writeAccepted r v := by
  simp [State.writeRegister, hr]

/-- A read that BUSY does not turn into a free value returns the register, and has no effect (R57, R60). -/
theorem State.readRegister_plain {s : State} {r : Reg} (h : s.task = none ∨ r.readableWhileBusy = true)
    (hlo : r ≠ .sdataLo) (hhi : r ≠ .sdataHi) : s.readRegister r = .next { s with hostData := s.registerWord r } := by
  obtain ⟨hb, hr, -⟩ | ⟨-, ⟨he, -⟩ | ⟨he, -⟩ | ⟨-, -, hr⟩⟩ := s.readRegister_cases r
  · obtain h | h := h
    · simp [State.busy, h] at hb
    · rw [h] at hr; cases hr
  · exact absurd he hlo
  · exact absurd he hhi
  · exact hr

/-! ### Other widths, other alignments, reserved offsets -/

/-- Settles O51: CMD's offset is aligned, and no register stands at a reserved offset. -/
theorem unsupportedAccessesAndReservedOffsets : Obligations.UnsupportedAccessesAndReservedOffsets := by
  intro s off v
  refine ⟨rfl, fun h => ?_, fun h4 hlo hcoef => ?_⟩
  · have hal : aligned off = false := by simpa [aligned] using h
    have hcmd : registerAt off ≠ some .cmd := fun hr => h (by rw [registerAt_cmd hr]; rfl)
    exact ⟨by simp [perform, Event.commandWord, hcmd, outsideEvent, hostWrite, hal],
      by simp [perform, Event.commandWord, outsideEvent, hostRead, hal]⟩
  · have hal : aligned off = true := by simpa [aligned] using h4
    have hr := registerAt_reserved h4 hlo hcoef
    exact ⟨by simp [perform, Event.commandWord, hr, outsideEvent, hostWrite, hal],
      by simp [perform, Event.commandWord, hr, outsideEvent, hostRead, hal]⟩

/-! ### Reset -/

/-- A write of CTRL with bit 31 set resets the block, BUSY or not (R167). -/
theorem perform_softReset {v : Word} (hv : v.getLsbD 31 = true) (s : State) :
    perform (.write 0x004 v) s = .next s.resetBlock := by
  rw [perform_write (r := .ctrl) rfl rfl (by decide), State.writeRegister_writable rfl, State.writeAccepted, hv]
  rfl

/-- Settles O48: both events reset the block, and a reset block has no command to go on with. -/
theorem softResetEqualsHardReset : Obligations.SoftResetEqualsHardReset := by
  intro s e rest he hreset
  have hp : perform e { s with events := rest } = .next (State.resetBlock { s with events := rest }) := by
    obtain rfl | ⟨v, hv, rfl⟩ := hreset
    · rfl
    · exact perform_softReset hv _
  by_cases hb : s.task = none
  · rw [step_idle he hb, hp]; rfl
  · rw [step_busy he hb, hp]; rfl

/-! ### A BUSY block -/

theorem State.readRegister_busy {s : State} {r : Reg} (hb : s.busy = true) (hr : r.readableWhileBusy = false) :
    s.readRegister r = .next s.drawFree := by
  simp [State.readRegister, hb, hr]

theorem State.writeRegister_busy {s : State} {r : Reg} (hb : s.busy = true) (hr : r.writableWhileBusy = false) (v : Word) :
    s.writeRegister r v = s.reject := by
  simp [State.writeRegister, hb, hr]

/-- A command word written while BUSY is rejected, whatever it is (R56). -/
theorem issueWord_busy {s : State} (hb : s.busy = true) (w : Word) : issueWord w s = .next s.reject := by
  unfold issueWord
  split
  · rw [exec_eq_issue, State.issue_busy hb]
  · exact State.issue_busy hb _ _ _

/-- A write to a register other than CTRL and STATUS, CMD among them, is rejected while BUSY (R56). -/
theorem perform_write_busy {s : State} {off : BitVec 12} {r : Reg} (hb : s.busy = true) (h4 : aligned off = true)
    (hr : registerAt off = some r) (hw : r.writableWhileBusy = false) (v : Word) :
    perform (.write off v) s = .next s.reject := by
  by_cases hcmd : r = .cmd
  · subst hcmd
    obtain rfl := registerAt_cmd hr
    rw [perform_cmd, issueWord_busy hb]
  · rw [perform_write h4 hr hcmd, State.writeRegister_busy hb hw]

/-- A host write to STATUS clears the flags whose bit is 1, BUSY or not (R26). -/
theorem perform_write_status (v : Word) (s : State) :
    perform (.write 0x008 v) s = .next { s with flags := s.flags.clearedBy v } := by
  rw [perform_write (r := .status) rfl rfl (by decide), State.writeRegister_writable rfl]
  rfl

/-- A host write to CTRL with bit 31 clear sets the interrupt enables, BUSY or not (R25). -/
theorem perform_write_ctrl {v : Word} (hv : v.getLsbD 31 = false) (s : State) :
    perform (.write 0x004 v) s = .next { s with ctrl := Ctrl.ofWord v } := by
  rw [perform_write (r := .ctrl) rfl rfl (by decide), State.writeRegister_writable rfl, State.writeAccepted, hv]
  rfl

/-- Settles O49: `offset_of_registerAt` says which register stands at an offset. -/
theorem hostAccessesWhileBusy : Obligations.HostAccessesWhileBusy := by
  intro s off v r hb h4 hr
  have hal : aligned off = true := by simpa [aligned] using h4
  have hoff := offset_of_registerAt hr h4
  have hbusy : s.busy = true := by simpa [State.busy, Option.isSome_iff_ne_none] using hb
  refine ⟨fun h => ?_, fun hid hctrl hstatus => ?_, fun hctrl hstatus => ?_, fun h hv => ?_, fun h => ?_⟩
  · rw [perform_read hal hr]
    obtain rfl | rfl | rfl := h <;> cases hr <;>
      exact State.readRegister_plain (.inr rfl) (by decide) (by decide)
  · have hread : r.readableWhileBusy = false := by
      cases r with
      | id => exact absurd hoff.symm hid
      | ctrl => exact absurd hoff.symm hctrl
      | status => exact absurd hoff.symm hstatus
      | _ => rfl
    rw [perform_read hal hr, State.readRegister_busy hbusy hread]
    rfl
  · have hwrite : r.writableWhileBusy = false := by
      cases r with
      | ctrl => exact absurd hoff.symm hctrl
      | status => exact absurd hoff.symm hstatus
      | _ => rfl
    exact perform_write_busy hbusy hal hr hwrite v
  · subst h; exact perform_write_ctrl hv s
  · subst h; exact perform_write_status v s

/-! ### STATUS -/

/-- Every bit of STATUS (R26). -/
theorem State.statusWord_getLsbD (s : State) (i : Nat) :
    s.statusWord.getLsbD i =
      if i = 0 then s.busy else if i < 4 then s.mode.number.getLsbD (i - 1) else if i = 4 then s.flags.done
      else if i = 5 then s.errFlag else if i = 6 then s.flags.eos else if i = 7 then s.flags.rej
      else if i = 8 then s.waitIn else false := by
  unfold State.statusWord
  rw [BitVec.getLsbD_append]
  simp only [BitVec.getLsbD_append]
  by_cases hi : i < 9
  · interval_cases i <;> simp
  · repeat' rw [if_neg (by omega)]
    exact BitVec.getLsbD_zero

/-- Settles O54: every bit is `State.statusWord_getLsbD`'s. -/
theorem statusBitsAndWriteOneToClear : Obligations.StatusBitsAndWriteOneToClear := by
  intro s v
  have hbit := s.statusWord_getLsbD
  have hmode : s.statusWord.extractLsb' 1 3 = s.mode.number := by
    refine BitVec.eq_of_getLsbD_eq fun i hi => ?_
    rw [BitVec.getLsbD_extractLsb', hbit, if_neg (by omega), if_pos (by omega), Nat.add_sub_cancel_left, decide_eq_true hi,
      Bool.true_and]
  have hhigh : s.statusWord.toNat < 2 ^ 9 := Nat.lt_pow_two_of_testBit _ fun i hi => by
    rw [BitVec.testBit_toNat, hbit]
    repeat' rw [if_neg (by omega)]
  refine ⟨hbit 0, ?_, hbit 4, (hbit 5).trans s.errFlag_eq, hbit 6, hbit 7, hbit 8, hhigh, perform_write_status v s, rfl⟩
  rw [hmode]
  cases s.mode <;> rfl

end Sys2Proof.Machine
end

section
/-! Reads and writes of an idle block's registers at their offsets, and the scratch port (R22, R24 to R43, R59). -/

namespace Sys2Proof.Machine

/-! ### The words of the packed registers -/

theorem toNat_append_eq_add {m n : Nat} (x : BitVec m) (y : BitVec n) : (x ++ y).toNat = x.toNat * 2 ^ n + y.toNat := by
  rw [BitVec.toNat_append, ← Nat.shiftLeft_add_eq_or_of_lt y.isLt, Nat.shiftLeft_eq]

theorem Ctrl.word_eq (c : Ctrl) :
    c.word = BitVec.ofNat 32 (c.ieDone.toNat + 2 * c.ieErr.toNat + 4 * c.ieEos.toNat) := by
  obtain ⟨a, b, c⟩ := c
  cases a <;> cases b <;> cases c <;> rfl

theorem ErrorLatch.word_eq (e : ErrorLatch) :
    e.word = BitVec.ofNat 32 (e.code.toNat + 2 ^ 8 * e.op.toNat + 2 ^ 12 * e.ch.toNat) := by
  apply BitVec.eq_of_toNat_eq
  rw [ErrorLatch.word, toNat_append_eq_add, BitVec.toNat_ofNat]
  simp only [toNat_append_eq_add, BitVec.ofNat_eq_ofNat, BitVec.toNat_ofNat]
  omega

theorem State.registerWord_fmt (s : State) :
    s.registerWord .fmt = BitVec.ofNat 32 (s.frame.chasgn.toNat + 2 ^ 8 * s.frame.depth.toNat) := by
  apply BitVec.eq_of_toNat_eq
  rw [State.registerWord, toNat_append_eq_add, BitVec.toNat_ofNat]
  simp only [toNat_append_eq_add, BitVec.ofNat_eq_ofNat, BitVec.toNat_ofNat]
  omega

theorem State.registerWord_pcfg (s : State) :
    s.registerWord .pcfg = BitVec.ofNat 32
      ((if s.pcfg.kind = .lpc then 1 else 0) + 2 ^ 8 * s.pcfg.order.toNat + 2 ^ 16 * s.pcfg.shift.toNat) := by
  apply BitVec.eq_of_toNat_eq
  rw [State.registerWord, toNat_append_eq_add, BitVec.toNat_ofNat]
  simp only [toNat_append_eq_add, BitVec.ofNat_eq_ofNat, BitVec.toNat_ofNat, BitVec.toNat_ofBool]
  split <;> simp [*] <;> omega

theorem State.registerWord_saddr (s : State) :
    s.registerWord .saddr = BitVec.ofNat 32 (s.saddr.idx.toNat + (if s.saddr.sel = .s1 then 2 ^ 16 else 0)) := by
  apply BitVec.eq_of_toNat_eq
  rw [State.registerWord, toNat_append_eq_add, BitVec.toNat_ofNat]
  simp only [toNat_append_eq_add, BitVec.ofNat_eq_ofNat, BitVec.toNat_ofNat, BitVec.toNat_ofBool]
  split <;> simp [*] <;> omega

theorem State.coefAt_fin (s : State) (j : Fin 32) : s.coefAt j = s.coef[j] := by
  simp [State.coefAt]

/-! ### What a write leaves to be read -/

theorem Ctrl.word_ofWord (v : Word) : (Ctrl.ofWord v).word = v &&& 0x00000007 := by
  refine BitVec.eq_of_getLsbD_eq fun i hi => ?_
  rw [Ctrl.word, BitVec.getLsbD_append]
  simp only [BitVec.getLsbD_append, Ctrl.ofWord]
  interval_cases i <;> simp

theorem PredictorConfig.ofWord_kind (v : Word) : decide ((PredictorConfig.ofWord v).kind = .lpc) = v.getLsbD 0 := by
  unfold PredictorConfig.ofWord
  cases v.getLsbD 0 <;> rfl

theorem ScratchAddress.ofWord_sel (v : Word) : decide ((ScratchAddress.ofWord v).sel = .s1) = v.getLsbD 16 := by
  unfold ScratchAddress.ofWord
  cases v.getLsbD 16 <;> rfl

theorem State.registerWord_pcfg_ofWord (s : State) (v : Word) :
    State.registerWord { s with pcfg := PredictorConfig.ofWord v } .pcfg = v &&& 0x001F3F01 := by
  refine BitVec.eq_of_getLsbD_eq fun i hi => ?_
  rw [State.registerWord, BitVec.getLsbD_append, PredictorConfig.ofWord_kind]
  simp only [BitVec.getLsbD_append, PredictorConfig.ofWord]
  interval_cases i <;> simp

theorem State.registerWord_saddr_ofWord (s : State) (v : Word) :
    State.registerWord { s with saddr := ScratchAddress.ofWord v } .saddr = v &&& 0x0001FFFF := by
  refine BitVec.eq_of_getLsbD_eq fun i hi => ?_
  rw [State.registerWord, BitVec.getLsbD_append]
  simp only [BitVec.getLsbD_append, ScratchAddress.ofWord_sel]
  simp only [ScratchAddress.ofWord]
  interval_cases i <;> simp

theorem State.registerWord_fmt_ofWord (s : State) (v : Word) :
    State.registerWord { s with frame := { s.frame with chasgn := v.extractLsb' 0 4, depth := v.extractLsb' 8 6 } } .fmt =
      v &&& 0x00003F0F := by
  refine BitVec.eq_of_getLsbD_eq fun i hi => ?_
  rw [State.registerWord, BitVec.getLsbD_append]
  simp only [BitVec.getLsbD_append]
  interval_cases i <;> simp

theorem extractLsb'_17_setWidth (v : Word) : (v.extractLsb' 0 17).setWidth 32 = v &&& 0x0001FFFF := by
  refine BitVec.eq_of_getLsbD_eq fun i hi => ?_
  interval_cases i <;> simp

theorem extractLsb'_4_setWidth (v : Word) : (v.extractLsb' 0 4).setWidth 32 = v &&& 0x0000000F := by
  refine BitVec.eq_of_getLsbD_eq fun i hi => ?_
  interval_cases i <;> simp

/-! ### Accesses with BUSY = 0 -/

/-- A register's read by name (R57, R60), SDATA apart. -/
theorem perform_read_idle (r : Reg) {s : State} {off : BitVec 12} {w : Word} (hw : s.registerWord r = w)
    (ht : s.task = none) (h4 : aligned off = true) (hr : registerAt off = some r) (hlo : r ≠ .sdataLo := by decide)
    (hhi : r ≠ .sdataHi := by decide) : perform (.read off) s = .next { s with hostData := w } := by
  rw [perform_read h4 hr, State.readRegister_plain (.inl ht) hlo hhi, hw]

theorem perform_write_idle (r : Reg) {s : State} {off : BitVec 12} (ht : s.task = none) (h4 : aligned off = true)
    (hr : registerAt off = some r) (v : Word) (hcmd : r ≠ .cmd := by decide) :
    perform (.write off v) s = .next (s.writeAccepted r v) := by
  rw [perform_write h4 hr hcmd, State.writeRegister_idle ht]

/-- Outside BODY a write of a frame register takes its fields (R58). -/
theorem perform_write_frame (r : Reg) {s : State} {off : BitVec 12} {v : Word} {f : FrameConfig} (ht : s.task = none)
    (hm : s.mode ≠ .body) (hf : s.writeAccepted r v = s.writeFrame f) (h4 : aligned off = true)
    (hr : registerAt off = some r) (hcmd : r ≠ .cmd := by decide) :
    perform (.write off v) s = .next { s with frame := f } := by
  rw [perform_write_idle r ht h4 hr v hcmd, hf, State.writeFrame_eq, if_neg hm]

theorem aligned_coef (j : Fin 32) : aligned (BitVec.ofNat 12 (0x080 + 4 * j)) = true := by
  revert j; decide

theorem setIfInBounds_fin {α : Type} (xs : Vector α 32) (j : Fin 32) (x : α) : xs.setIfInBounds j x = xs.set j x := by
  ext i hi
  simp [Vector.getElem_setIfInBounds, Vector.getElem_set]

theorem State.writeCoef_fin (s : State) (j : Fin 32) (v : Word) :
    s.writeCoef j v = { s with coef := s.coef.set j v, coefTag := s.coefTag.set j true } := by
  rw [State.writeCoef, setIfInBounds_fin, setIfInBounds_fin]

/-- The registers a host only reads ignore a write. -/
theorem perform_write_readOnly (r : Reg) {s : State} {off : BitVec 12} {v : Word} (ht : s.task = none)
    (hro : s.writeAccepted r v = s) (h4 : aligned off = true) (hr : registerAt off = some r)
    (hcmd : r ≠ .cmd := by decide) : perform (.write off v) s = .next s := by
  rw [perform_write_idle r ht h4 hr v hcmd, hro]

/-- Settles O55: each register at its offset, by its name. -/
theorem hostReadsAndWritesOfEveryRegister : Obligations.HostReadsAndWritesOfEveryRegister := by
  intro s v ht
  refine ⟨fun off w h => ?_, fun off h => ?_, fun hv => ?_, ?_, ?_, fun j => ?_, fun hm off mask h => ?_⟩
  · obtain ⟨rfl, rfl⟩ | ⟨rfl, rfl⟩ | ⟨rfl, rfl⟩ | ⟨rfl, rfl⟩ | ⟨rfl, rfl⟩ | ⟨rfl, rfl⟩ | ⟨rfl, rfl⟩ | ⟨rfl, rfl⟩ |
      ⟨rfl, rfl⟩ | ⟨rfl, rfl⟩ | ⟨rfl, rfl⟩ | ⟨rfl, rfl⟩ | ⟨rfl, rfl⟩ | ⟨rfl, rfl⟩ | ⟨rfl, rfl⟩ | ⟨rfl, rfl⟩ |
      ⟨rfl, rfl⟩ | ⟨rfl, rfl⟩ | ⟨rfl, rfl⟩ | ⟨rfl, rfl⟩ | ⟨j, rfl, rfl⟩ := h
    · exact perform_read_idle .id rfl ht rfl rfl
    · exact perform_read_idle .ctrl s.ctrl.word_eq ht rfl rfl
    · exact perform_read_idle .status rfl ht rfl rfl
    · exact perform_read_idle .errcode s.err.word_eq ht rfl rfl
    · exact perform_read_idle .errpos rfl ht rfl rfl
    · exact perform_read_idle .erridx rfl ht rfl rfl
    · exact perform_read_idle .cmd rfl ht rfl rfl
    · exact perform_read_idle .rdata rfl ht rfl rfl
    · exact perform_read_idle .blksize rfl ht rfl rfl
    · exact perform_read_idle .fmt s.registerWord_fmt ht rfl rfl
    · exact perform_read_idle .outoff rfl ht rfl rfl
    · exact perform_read_idle .outlen rfl ht rfl rfl
    · exact perform_read_idle .outch rfl ht rfl rfl
    · exact perform_read_idle .pcfg s.registerWord_pcfg ht rfl rfl
    · exact perform_read_idle .saddr s.registerWord_saddr ht rfl rfl
    · exact perform_read_idle .crc16 rfl ht rfl rfl
    · exact perform_read_idle .crc8 rfl ht rfl rfl
    · exact perform_read_idle .bitposLo rfl ht rfl rfl
    · exact perform_read_idle .bitposHi rfl ht rfl rfl
    · exact perform_read_idle .fsize rfl ht rfl rfl
    · exact perform_read_idle (.coef j) (s.coefAt_fin j) ht (aligned_coef j) (registerAt_coef j.isLt) nofun nofun
  · simp only [List.mem_cons, List.not_mem_nil, or_false] at h
    obtain rfl | rfl | rfl | rfl | rfl | rfl | rfl | rfl | rfl | rfl := h
    · exact perform_write_readOnly .id ht rfl rfl rfl
    · exact perform_write_readOnly .errcode ht rfl rfl rfl
    · exact perform_write_readOnly .errpos ht rfl rfl rfl
    · exact perform_write_readOnly .erridx ht rfl rfl rfl
    · exact perform_write_readOnly .rdata ht rfl rfl rfl
    · exact perform_write_readOnly .crc16 ht rfl rfl rfl
    · exact perform_write_readOnly .crc8 ht rfl rfl rfl
    · exact perform_write_readOnly .bitposLo ht rfl rfl rfl
    · exact perform_write_readOnly .bitposHi ht rfl rfl rfl
    · exact perform_write_readOnly .fsize ht rfl rfl rfl
  · exact ⟨_, perform_write_ctrl hv s, rfl, perform_read_idle .ctrl (Ctrl.word_ofWord v) ht rfl rfl⟩
  · exact ⟨_, perform_write_idle .pcfg ht rfl rfl v, rfl,
      perform_read_idle .pcfg (s.registerWord_pcfg_ofWord v) ht rfl rfl⟩
  · exact ⟨_, perform_write_idle .saddr ht rfl rfl v, rfl,
      perform_read_idle .saddr (s.registerWord_saddr_ofWord v) ht rfl rfl⟩
  · exact (perform_write_idle (.coef j) ht (aligned_coef j) (registerAt_coef j.isLt) v nofun).trans
      (congrArg _ (s.writeCoef_fin j v))
  · obtain ⟨rfl, rfl⟩ | ⟨rfl, rfl⟩ | ⟨rfl, rfl⟩ | ⟨rfl, rfl⟩ | ⟨rfl, rfl⟩ := h
    · exact ⟨_, perform_write_frame .blksize ht hm rfl rfl rfl, rfl,
        perform_read_idle .blksize (extractLsb'_17_setWidth v) ht rfl rfl⟩
    · exact ⟨_, perform_write_frame .fmt ht hm rfl rfl rfl, rfl,
        perform_read_idle .fmt (s.registerWord_fmt_ofWord v) ht rfl rfl⟩
    · exact ⟨_, perform_write_frame .outoff ht hm rfl rfl rfl, rfl,
        perform_read_idle .outoff BitVec.and_allOnes.symm ht rfl rfl⟩
    · exact ⟨_, perform_write_frame .outlen ht hm rfl rfl rfl, rfl,
        perform_read_idle .outlen BitVec.and_allOnes.symm ht rfl rfl⟩
    · exact ⟨_, perform_write_frame .outch ht hm rfl rfl rfl, rfl,
        perform_read_idle .outch (extractLsb'_4_setWidth v) ht rfl rfl⟩

/-! ### The scratch port: WRS and RDS (R59, R92) -/

/-- The first step of a run leads on to the others. -/
theorem core_run_succ {s s' : State} (h : step s = .next s') (k : Nat) :
    Host.Core.run Sys2Proof.core (k + 1) s = Host.Core.run Sys2Proof.core k s' := by
  have hstep : Sys2Proof.core.step s = .next s' := h
  simp only [Host.Core.run, hstep]

theorem scratchAddressWord_toNat (b : Buf) {i : Nat} (hi : i < 65536) :
    (scratchAddressWord b i).toNat = b.bit.toNat * 65536 + i := by
  have hbit : b.bit.toNat < 2 := by cases b <;> decide
  have hi32 : i % 2 ^ 32 = i := Nat.mod_eq_of_lt (by omega)
  have hb : b.bit.toNat <<< 16 % 2 ^ 32 = b.bit.toNat <<< 16 := Nat.mod_eq_of_lt (by omega)
  rw [scratchAddressWord, BitVec.toNat_or, BitVec.toNat_shiftLeft, BitVec.toNat_ofNat, hi32, hb,
    ← Nat.shiftLeft_add_eq_or_of_lt hi, Nat.shiftLeft_eq]

/-- The word of SADDR names the entry it was made for. -/
theorem ScratchAddress.ofWord_scratchAddressWord (b : Buf) {i : Nat} (hi : i < 65536) :
    ScratchAddress.ofWord (scratchAddressWord b i) = { idx := BitVec.ofNat 16 i, sel := b } := by
  have hword := scratchAddressWord_toNat b hi
  have hidx : (scratchAddressWord b i).extractLsb' 0 16 = BitVec.ofNat 16 i := by
    apply BitVec.eq_of_toNat_eq
    rw [BitVec.extractLsb'_toNat, hword, BitVec.toNat_ofNat]
    omega
  have hsel : (scratchAddressWord b i).getLsbD 16 = decide (b = .s1) := by
    rw [← BitVec.testBit_toNat, hword, Nat.testBit_eq_decide_div_mod_eq]
    cases b <;> simp [Buf.bit] <;> omega
  unfold ScratchAddress.ofWord
  rw [hidx, hsel]
  cases b <;> rfl

theorem extractLsb'_append_setWidth (v : Sample) : (v.extractLsb' 32 32 : Word) ++ (v.setWidth 32 : Word) = v := by
  apply BitVec.eq_of_toNat_eq
  rw [toNat_append_eq_add, BitVec.extractLsb'_toNat, BitVec.toNat_setWidth, Nat.shiftRight_eq_div_pow]
  omega

/-- A read of SDATA_LO returns the low word of a written entry and latches the high one (R59). -/
theorem State.readSdataLo_of_some {s : State} {x : Sample} (hx : s.readScratch s.saddr.sel s.saddr.idx.toNat = some x) :
    s.readSdataLo = .next { s with hostData := x.setWidth 32, rhi := x.extractLsb' 32 32 } := by
  simp [State.readSdataLo, State.registerWord, hx]

section
variable {s : State} {rest : List Event} (ht : s.task = none)
include ht

theorem step_write_idle (r : Reg) {v : Word} (he : s.events = wr r v ++ rest) (h4 : aligned r.offset = true)
    (hr : registerAt r.offset = some r) (hcmd : r ≠ .cmd := by decide) :
    step s = .next (State.writeAccepted { s with events := rest } r v) := by
  rw [step_idle he ht]
  exact perform_write_idle (s := { s with events := rest }) r ht h4 hr v hcmd

theorem step_write_saddr {b : Buf} {i : Nat} (hi : i < 65536)
    (he : s.events = wr .saddr (scratchAddressWord b i) ++ rest) :
    step s = .next { s with saddr := { idx := BitVec.ofNat 16 i, sel := b }, events := rest } := by
  rw [step_write_idle ht .saddr he rfl rfl, State.writeAccepted, ScratchAddress.ofWord_scratchAddressWord b hi]

theorem step_write_sdataHi {v : Word} (he : s.events = wr .sdataHi v ++ rest) :
    step s = .next { s with whi := v, events := rest } := step_write_idle ht .sdataHi he rfl rfl

theorem step_write_sdataLo {v : Word} (he : s.events = wr .sdataLo v ++ rest) :
    step s = .next (State.commitScratch { s with events := rest } v) := step_write_idle ht .sdataLo he rfl rfl

theorem step_read_sdataLo {x : Sample} (hx : s.readScratch s.saddr.sel s.saddr.idx.toNat = some x)
    (he : s.events = rd .sdataLo ++ rest) :
    step s = .next { s with hostData := x.setWidth 32, rhi := x.extractLsb' 32 32, events := rest } := by
  have hread : State.readRegister { s with events := rest } .sdataLo = State.readSdataLo { s with events := rest } := by
    simp [State.readRegister, State.busy, ht]
  rw [step_idle (rest := rest) he ht, perform_read (r := .sdataLo) rfl rfl, hread,
    State.readSdataLo_of_some (s := { s with events := rest }) hx]

theorem step_read_sdataHi (he : s.events = rd .sdataHi ++ rest) :
    step s = .next (State.readSdataHi { s with events := rest }) := by
  rw [step_idle (rest := rest) he ht, perform_read (r := .sdataHi) rfl rfl]
  simp [State.readRegister, State.busy, ht]

end

/-- WRS writes its entry in three steps, and leaves SADDR at the next one (R92). -/
theorem core_run_wrs {s : State} {rest : List Event} {b : Buf} {i : Nat} {v : Sample} (ht : s.task = none)
    (hi : i < 65536) (he : s.events = wrs b i v ++ rest) (k : Nat) :
    Host.Core.run Sys2Proof.core (k + 3) s = Host.Core.run Sys2Proof.core k
      { s.writeScratch b i v with
        saddr := { idx := BitVec.ofNat 16 i + 1, sel := b }, whi := v.extractLsb' 32 32, events := rest } := by
  have hidx : (BitVec.ofNat 16 i).toNat = i := Nat.mod_eq_of_lt hi
  have hsaddr := step_write_saddr (rest := wr .sdataHi _ ++ (wr .sdataLo _ ++ rest)) ht hi he
  have hhigh := step_write_sdataHi (rest := wr .sdataLo _ ++ rest)
    (s := { s with
      saddr := { idx := BitVec.ofNat 16 i, sel := b }
      events := wr .sdataHi (v.extractLsb' 32 32) ++ (wr .sdataLo (v.setWidth 32) ++ rest) }) ht rfl
  have hlow := step_write_sdataLo
    (s := { s with
      saddr := { idx := BitVec.ofNat 16 i, sel := b }
      whi := v.extractLsb' 32 32
      events := wr .sdataLo (v.setWidth 32) ++ rest }) ht rfl
  rw [State.commitScratch, extractLsb'_append_setWidth, hidx] at hlow
  refine (core_run_succ hsaddr _).trans ((core_run_succ hhigh _).trans ((core_run_succ hlow _).trans ?_))
  cases b <;> rfl

/-- RDS returns the low word of a written entry, then its high word (R92). -/
theorem core_run_rds {s : State} {rest : List Event} {b : Buf} {i : Nat} {x : Sample} (ht : s.task = none)
    (hi : i < 65536) (hx : s.readScratch b i = some x) (he : s.events = rds b i ++ rest) :
    ∃ t u : State, Host.Core.run Sys2Proof.core 2 s = .next t ∧ t.hostData = x.setWidth 32 ∧
      step t = .next u ∧ u.hostData = x.extractLsb' 32 32 ∧ u.readScratch b i = some x ∧ u.events = rest := by
  have hidx : (BitVec.ofNat 16 i).toNat = i := Nat.mod_eq_of_lt hi
  have hsaddr := step_write_saddr (rest := rd .sdataLo ++ (rd .sdataHi ++ rest)) ht hi he
  have hlow := step_read_sdataLo (rest := rd .sdataHi ++ rest) (x := x)
    (s := { s with
      saddr := { idx := BitVec.ofNat 16 i, sel := b }, events := rd .sdataLo ++ (rd .sdataHi ++ rest) })
    ht (by rw [hidx]; exact hx) rfl
  exact ⟨_, _, (core_run_succ hsaddr 1).trans (core_run_succ hlow 0), rfl, step_read_sdataHi ht rfl, rfl, hx, rfl⟩

/-- Settles O53: RDS reads the entry WRS has written. -/
theorem rdsReturnsWhatWrsWrote : Obligations.RdsReturnsWhatWrsWrote := by
  intro s b i v rest ht hi he
  have hx : (s.writeScratch b i v).readScratch b i = some v := by
    rw [State.readScratch_writeScratch, if_pos ⟨rfl, rfl⟩]
  obtain ⟨t, u, hrun, hread⟩ := core_run_rds (rest := rest)
    (s := { s.writeScratch b i v with
      saddr := { idx := BitVec.ofNat 16 i + 1, sel := b }, whi := v.extractLsb' 32 32, events := rds b i ++ rest })
    (by simpa using ht) hi (by cases b <;> exact hx) rfl
  exact ⟨t, u, (core_run_wrs ht hi (he.trans (List.append_assoc _ _ _)) 2).trans hrun, hread⟩

end Sys2Proof.Machine
end

section
/-! Reads of entries nothing has written: where WSHL, EMIT, RECON and DECOR stop the model (R45, R46). -/

namespace Sys2Proof.Machine

/-! ### Loops -/

/-- A command legal in this state runs from its first step. -/
theorem exec_of_legal {i : Instr} {s : State} (ht : s.task = none) (hl : legalityOf i s.mode = .ok) :
    exec i s = s.run (startOf i) := by
  rw [exec_eq_issue, State.issue_ok ht hl]

/-- A loop that goes on below index `n` and meets a fault at `n`: `P` is what holds at the head of each turn. -/
theorem drive_loop_fault {T : Nat → Task} {P : Nat → State → Prop} {n : Nat} {f : Fault}
    (go : ∀ i s, i < n → P i s → ∃ s', advance (T i) s = .go (T (i + 1)) s' ∧ P (i + 1) s')
    (stop : ∀ s, P n s → advance (T n) s = .fault f) {i : Nat} {s : State} (hi : i ≤ n) (hP : P i s) {m : Nat}
    (hm : n - i < m) : drive m (T i) s = .fault f := by
  obtain ⟨m, rfl⟩ : ∃ m', m = m' + 1 := ⟨m - 1, by omega⟩
  by_cases hin : i = n
  · subst hin
    exact drive_fault (stop s hP)
  · obtain ⟨s', hs', hP'⟩ := go i s (by omega) hP
    rw [drive_go hs']
    exact drive_loop_fault go stop (by omega) hP' (by omega)
termination_by n - i

/-- A loop over a block fits into the sequencer steps of one machine step, after the command's first. -/
theorem exists_maxBurst : ∃ m, Config.maxBurst = m + 1 ∧ 131072 < m := ⟨18446744073709551615, rfl, by decide⟩

theorem FrameConfig.blockSize_lt (f : FrameConfig) : f.blockSize < 131072 := f.blksize.isLt

/-- The entries a buffer holds, one by one. -/
theorem State.readScratch_of_holds {s : State} {b : Buf} {xs : List Sample} (h : s.holds b xs) {i : Nat}
    (hi : i < xs.length) : s.readScratch b i = some xs[i] := by
  have := congrArg (·[i]?) h
  simpa [hi] using this

theorem State.inRange_of_inDepth {s : State} {xs : List Sample} (h : s.inDepth xs) {i : Nat} (hi : i < xs.length) :
    s.frame.inRange xs[i] = true := List.all_eq_true.1 h _ (List.getElem_mem hi)

/-! ### WSHL -/

/-- From index `i` on a buffer is as it was. -/
structure State.SameFrom (s : State) (b : Buf) (i : Nat) (u : State) : Prop where
  frame : u.frame = s.frame
  entries : ∀ j, i ≤ j → u.readScratch b j = s.readScratch b j

theorem State.SameFrom.refl (s : State) (b : Buf) (i : Nat) : s.SameFrom b i s := ⟨rfl, fun _ _ => rfl⟩

theorem State.SameFrom.write {s u : State} {b : Buf} {i : Nat} (h : s.SameFrom b i u) (v : Sample) :
    s.SameFrom b (i + 1) (u.writeScratch b i v) where
  frame := by simpa using h.frame
  entries j hj := by
    rw [State.readScratch_writeScratch, if_neg (by omega)]
    exact h.entries j (by omega)

theorem run_wshl_unwritten {s : State} {b : Buf} {k n : Nat} (hpace : s.pace = []) (hn : n < s.frame.blockSize)
    (hwritten : ∀ i, i < n → s.readScratch b i ≠ none) (hunwritten : s.readScratch b n = none) :
    s.run (.wshl b k 0) = .fault (.unwrittenScratch b n) := by
  have hN := s.frame.blockSize_lt
  rw [State.run_undisturbed hpace]
  refine drive_loop_fault (T := .wshl b k) (P := fun i u => s.SameFrom b i u) (n := n) (fun i u hi hu => ?_)
    (fun u hu => ?_) (Nat.zero_le n) (.refl s b 0) (by unfold Config.maxBurst; omega)
  · obtain ⟨x, hx⟩ := Option.ne_none_iff_exists'.1 (hwritten i hi)
    refine ⟨_, ?_, hu.write (x <<< k)⟩
    simp only [advance, advanceWshl, hu.frame, if_pos (hi.trans hn), hu.entries i le_rfl, hx]
  · simp only [advance, advanceWshl, hu.frame, if_pos hn, hu.entries n le_rfl, hunwritten]

/-! ### EMIT and DECOR's pass 1 -/

/-- Scratch and the frame configuration are as they were. -/
structure State.SameScratch (s u : State) : Prop where
  frame : u.frame = s.frame
  entries : ∀ b i, u.readScratch b i = s.readScratch b i

theorem State.SameScratch.emitSample {s u : State} (h : s.SameScratch u) {ch i : Nat} {v : Sample} (next : Task)
    (hv : s.frame.inRange v = true) : ∃ u', u.emitSample ch i v next = .go next u' ∧ s.SameScratch u' := by
  refine ⟨u.outWrite ch (u.frame.outoff.toNat + i) (v.setWidth 32), ?_, h.frame, h.entries⟩
  rw [State.emitSample, h.frame, if_pos hv]

theorem run_emit_unwritten {s : State} {b : Buf} {ch n : Nat} (hpace : s.pace = []) (h7 : s.frame.chasgn.toNat ≤ 7)
    (hch : ch ≤ s.frame.chasgn.toNat) (hn : n < s.frame.blockSize)
    (hwritten : ∀ i, i < n → ∃ x, s.readScratch b i = some x ∧ s.frame.inRange x = true)
    (hunwritten : s.readScratch b n = none) :
    s.run (.emitStart b ch) = .fault (.unwrittenScratch b n) := by
  have hN := s.frame.blockSize_lt
  have hstart : advance (.emitStart b ch) s = .go (.emit b ch 0) s := by
    simp only [advance, advanceEmitStart]
    rw [if_neg (by omega)]
  obtain ⟨m, hm, hlarge⟩ := exists_maxBurst
  rw [State.run_undisturbed hpace, hm, drive_go hstart]
  refine drive_loop_fault (T := .emit b ch) (P := fun _ u => s.SameScratch u) (n := n) (fun i u hi hu => ?_)
    (fun u hu => ?_) (Nat.zero_le n) ⟨rfl, fun _ _ => rfl⟩ (by omega)
  · obtain ⟨x, hx, hrange⟩ := hwritten i hi
    obtain ⟨u', hu', hsame⟩ := hu.emitSample (ch := ch) (i := i) (.emit b ch (i + 1)) hrange
    refine ⟨u', ?_, hsame⟩
    simp only [advance, advanceEmit, hu.frame, if_pos (hi.trans hn), hu.entries, hx, hu']
  · simp only [advance, advanceEmit, hu.frame, if_pos hn, hu.entries, hunwritten]

theorem run_decor_unwritten {s : State} {n : Nat} {f : Fault} (hpace : s.pace = []) (h8 : 8 ≤ s.frame.chasgn.toNat)
    (hn : n < s.frame.blockSize)
    (hwritten : ∀ i, i < n → ∃ x y, s.readScratch .s0 i = some x ∧ s.readScratch .s1 i = some y ∧
      s.frame.inRange (decorrelateLeft s.frame.chasgn x y) = true)
    (hunwritten : s.stereoPair n = .error f) : s.run .decorStart = .fault f := by
  have hN := s.frame.blockSize_lt
  have hstart : advance .decorStart s = .go (.decorLeft 0) s := by
    simp only [advance, advanceDecorStart]
    rw [if_neg (by omega)]
  obtain ⟨m, hm, hlarge⟩ := exists_maxBurst
  have hpair : ∀ u, s.SameScratch u → ∀ i, u.stereoPair i = s.stereoPair i := fun u hu i => by
    simp only [State.stereoPair, hu.entries]
  rw [State.run_undisturbed hpace, hm, drive_go hstart]
  refine drive_loop_fault (T := .decorLeft) (P := fun _ u => s.SameScratch u) (n := n) (fun i u hi hu => ?_)
    (fun u hu => ?_) (Nat.zero_le n) ⟨rfl, fun _ _ => rfl⟩ (by omega)
  · obtain ⟨x, y, hx, hy, hrange⟩ := hwritten i hi
    obtain ⟨u', hu', hsame⟩ := hu.emitSample (ch := 0) (i := i) (.decorLeft (i + 1)) hrange
    have hp : s.stereoPair i = .ok (x, y) := by simp only [State.stereoPair, hx, hy]
    refine ⟨u', ?_, hsame⟩
    simp only [advance, advanceDecorLeft, hu.frame, if_pos (hi.trans hn), hpair u hu, hp, hu']
  · simp only [advance, advanceDecorLeft, hu.frame, if_pos hn, hpair u hu, hunwritten]

/-! ### RECON -/

/-- With their tags set the coefficients are read, all of them (R126). -/
theorem State.lpcCoefs_ok {s : State} {n j : Nat} (h : ∀ i, j ≤ i → i < j + n → s.coefValid i = true) :
    ∃ c, s.lpcCoefs n j = .ok c ∧ c.length = n := by
  induction n generalizing j with
  | zero => exact ⟨[], rfl, rfl⟩
  | succ n ih =>
    obtain ⟨c, hc, hlen⟩ := ih (j := j + 1) (fun i h1 h2 => h i (by omega) (by omega))
    refine ⟨(s.coefAt j).signExtend 64 :: c, ?_, by simp [hlen]⟩
    simp only [State.lpcCoefs, h j le_rfl (by omega), if_true, hc]

/-- The first clear tag stops the reading of the coefficients (R46). -/
theorem State.lpcCoefs_error {s : State} {n j d : Nat} (hd : d < n) (h : ∀ i, j ≤ i → i < j + d → s.coefValid i = true)
    (hclear : s.coefValid (j + d) = false) : s.lpcCoefs n j = .error (.unwrittenCoef (j + d)) := by
  obtain ⟨n, rfl⟩ : ∃ n', n = n' + 1 := ⟨n - 1, by omega⟩
  induction d generalizing n j with
  | zero => simp only [State.lpcCoefs]; rw [if_neg (by simpa using hclear)]; rfl
  | succ d ih =>
    have hrest : s.lpcCoefs n (j + 1) = .error (.unwrittenCoef (j + 1 + d)) := by
      obtain ⟨n, rfl⟩ : ∃ n', n = n' + 1 := ⟨n - 1, by omega⟩
      exact ih (fun i h1 h2 => h i (by omega) (by omega)) (by rwa [Nat.add_right_comm, Nat.add_assoc]) n (by omega)
    simp only [State.lpcCoefs, h j le_rfl (by omega), if_true, hrest]
    rw [Nat.add_right_comm, Nat.add_assoc]

theorem fixedCoefs_length {order : Nat} (h : order ≤ 4) : (fixedCoefs order).length = order := by
  interval_cases order <;> rfl

/-- A legal configuration with its tags set gives RECON as many coefficients as ORDER says. -/
theorem State.predictorCoefs_ok {s : State} (hlegal : s.pcfg.legal = true)
    (hvalid : s.pcfg.kind = .lpc → ∀ i, i < s.pcfg.order.toNat → s.coefValid i = true) :
    ∃ c, s.predictorCoefs = .ok c ∧ c.length = s.pcfg.order.toNat := by
  unfold PredictorConfig.legal at hlegal
  unfold State.predictorCoefs
  cases hk : s.pcfg.kind with
  | fixed =>
    rw [hk] at hlegal
    exact ⟨_, rfl, fixedCoefs_length (of_decide_eq_true hlegal)⟩
  | lpc => exact State.lpcCoefs_ok fun i _ hi => hvalid hk i (by omega)

theorem State.accumulate_ok {s : State} {b : Buf} {c : List Sample} {i : Nat} (hc : c.length ≤ i)
    (h : ∀ j, j < i → s.readScratch b j ≠ none) (acc : Sample) : ∃ sum, s.accumulate b c i acc = .ok sum := by
  induction c generalizing i acc with
  | nil => exact ⟨acc, rfl⟩
  | cons x c ih =>
    simp only [List.length_cons] at hc
    obtain ⟨y, hy⟩ := Option.ne_none_iff_exists'.1 (h (i - 1) (by omega))
    obtain ⟨sum, hsum⟩ := ih (i := i - 1) (by omega) (fun j hj => h j (by omega)) (acc + y * x)
    exact ⟨sum, by simp only [State.accumulate, hy, hsum]⟩

/-- Reading back from index `i` the accumulator stops at the last unwritten entry it reaches. -/
theorem State.accumulate_error {s : State} {b : Buf} {c : List Sample} {i j : Nat} (hj : j < i) (hc : i ≤ j + c.length)
    (h : ∀ k, j < k → k < i → s.readScratch b k ≠ none) (hunwritten : s.readScratch b j = none) (acc : Sample) :
    s.accumulate b c i acc = .error (.unwrittenScratch b j) := by
  induction c generalizing i acc with
  | nil => simp only [List.length_nil] at hc; omega
  | cons x c ih =>
    simp only [List.length_cons] at hc
    by_cases hlast : i - 1 = j
    · simp only [State.accumulate, hlast, hunwritten]
    · obtain ⟨y, hy⟩ := Option.ne_none_iff_exists'.1 (h (i - 1) (by omega) (by omega))
      simp only [State.accumulate, hy]
      exact ih (by omega) (by omega) (fun k h1 h2 => h k h1 (by omega)) _

section
variable {s : State} {b : Buf} (hpace : s.pace = []) (hlegal : s.pcfg.legal = true)
  (hshift : s.pcfg.negativeShift = false)
include hpace hlegal hshift

theorem run_reconStart_error {f : Fault} (hcoefs : s.predictorCoefs = .error f) : s.run (.reconStart b) = .fault f := by
  have hstart : advance (.reconStart b) s = .fault f := by
    simp [advance, advanceReconStart, hlegal, hshift, hcoefs]
  obtain ⟨m, hm, -⟩ := exists_maxBurst
  rw [State.run_undisturbed hpace, hm, drive_fault hstart]

/-- RECON's loop stops at the first unwritten entry it reads: going back from ORDER, then going up (R126, R129). -/
theorem run_recon_unwritten {c : List Sample} {n : Nat} (hcoefs : s.predictorCoefs = .ok c)
    (hlen : c.length = s.pcfg.order.toNat) (hn : n < s.frame.blockSize) (horder : s.pcfg.order.toNat < s.frame.blockSize)
    (hunwritten : s.readScratch b n = none)
    (hfirst : if n < s.pcfg.order.toNat then ∀ i, n < i → i < s.pcfg.order.toNat → s.readScratch b i ≠ none
      else ∀ i, i < n → s.readScratch b i ≠ none) :
    s.run (.reconStart b) = .fault (.unwrittenScratch b n) := by
  have hN := s.frame.blockSize_lt
  have hstart : advance (.reconStart b) s = .go (.recon b s.pcfg.order.toNat c s.pcfg.shiftAmount) s := by
    simp [advance, advanceReconStart, hlegal, hshift, hcoefs]
  obtain ⟨m, hm, hlarge⟩ := exists_maxBurst
  rw [State.run_undisturbed hpace, hm, drive_go hstart]
  split at hfirst
  · next hbelow =>
    obtain ⟨m, rfl⟩ : ∃ m', m = m' + 1 := ⟨m - 1, by omega⟩
    have hsum := State.accumulate_error (c := c) hbelow (by omega) hfirst hunwritten 0
    refine drive_fault ?_
    simp only [advance, advanceRecon, if_pos horder, hsum]
  · next habove =>
    refine drive_loop_fault (T := fun i => .recon b i c s.pcfg.shiftAmount) (n := n)
      (P := fun i u => s.SameFrom b i u ∧ (∀ j, j < i → u.readScratch b j ≠ none) ∧ s.pcfg.order.toNat ≤ i)
      (fun i u hi hu => ?_) (fun u hu => ?_) (Nat.not_lt.1 habove)
      ⟨.refl s b _, fun j hj => hfirst j (by omega), le_rfl⟩ (by omega)
    · obtain ⟨hsame, hwritten, hle⟩ := hu
      obtain ⟨x, hx⟩ := Option.ne_none_iff_exists'.1 (hfirst i hi)
      obtain ⟨sum, hsum⟩ := State.accumulate_ok (hlen.le.trans hle) hwritten 0
      refine ⟨_, ?_, hsame.write (x + sum.sshiftRight s.pcfg.shiftAmount), fun j hj => ?_, hle.trans (Nat.le_succ i)⟩
      · simp only [advance, advanceRecon, hsame.frame, if_pos (hi.trans hn), hsum, hsame.entries i le_rfl, hx]
      · rw [State.readScratch_writeScratch]
        split
        · simp
        · next hne => exact hwritten j (by simp only [true_and] at hne; omega)
    · obtain ⟨hsame, hwritten, hle⟩ := hu
      obtain ⟨sum, hsum⟩ := State.accumulate_ok (hlen.le.trans hle) hwritten 0
      simp only [advance, advanceRecon, hsame.frame, if_pos hn, hsum, hsame.entries n le_rfl, hunwritten]

end

/-- Settles O33: each command by the loop that reads its entries. -/
theorem unwrittenReadsStopTheModel : Obligations.UnwrittenReadsStopTheModel := by
  refine ⟨fun s b k ch xs ⟨hmode, ht, hpace⟩ hn hxs hnone => ⟨?_, fun h7 hch hdepth => ?_⟩,
    fun s b j ⟨hmode, ht, hpace⟩ hkind hlegal hshift hj hvalid hclear => ?_,
    fun s b j ⟨hmode, ht, hpace⟩ hlegal hshift hvalid hj horder hnone hfirst => ?_,
    fun s as bs ⟨hmode, ht, hpace⟩ h8 hlen hn has hbs hdepth => ?_⟩
  · rw [exec_of_legal ht (by rw [hmode]; rfl)]
    exact run_wshl_unwritten hpace hn (fun i hi => by rw [State.readScratch_of_holds hxs hi]; simp) hnone
  · rw [exec_of_legal ht (by rw [hmode]; rfl)]
    exact run_emit_unwritten hpace h7 hch hn
      (fun i hi => ⟨xs[i], State.readScratch_of_holds hxs hi, State.inRange_of_inDepth hdepth hi⟩) hnone
  · have hcoefs : s.predictorCoefs = .error (.unwrittenCoef j) := by
      simpa [State.predictorCoefs, hkind] using
        State.lpcCoefs_error (j := 0) hj (fun i _ hi => hvalid i (by omega)) (by simpa using hclear)
    rw [exec_of_legal ht (by rw [hmode]; rfl)]
    exact run_reconStart_error hpace hlegal hshift hcoefs
  · obtain ⟨c, hcoefs, hclen⟩ := State.predictorCoefs_ok hlegal hvalid
    rw [exec_of_legal ht (by rw [hmode]; rfl)]
    exact run_recon_unwritten hpace hlegal hshift hcoefs hclen hj horder hnone hfirst
  · have hwritten : ∀ i, i < as.length → ∃ x y, s.readScratch .s0 i = some x ∧ s.readScratch .s1 i = some y ∧
        s.frame.inRange (decorrelateLeft s.frame.chasgn x y) = true := fun i hi => by
      have hzip : i < (List.zipWith (decorrelateLeft s.frame.chasgn) as bs).length := by simp [← hlen, hi]
      refine ⟨as[i], bs[i], State.readScratch_of_holds has hi, State.readScratch_of_holds hbs (hlen ▸ hi), ?_⟩
      simpa using State.inRange_of_inDepth hdepth hzip
    rw [exec_of_legal ht (by rw [hmode]; rfl)]
    refine ⟨fun h0 => run_decor_unwritten hpace h8 hn hwritten ?_, fun h0 h1 => run_decor_unwritten hpace h8 hn hwritten ?_⟩
    · simp only [State.stereoPair, h0]
    · obtain ⟨x, hx⟩ := Option.ne_none_iff_exists'.1 h0
      simp only [State.stereoPair, hx, h1]

end Sys2Proof.Machine
end

section
/-! Running a command up to the point where the bits at hand end. -/

namespace Sys2Proof.Machine

/-! ### Consuming the bits at hand -/

/-- The state after `n` bits have been read. -/
def State.skipBits (s : State) (n : Nat) : State := { s with input := s.input.advanceBy n }

@[simp] theorem State.skipBits_frame (s : State) (n : Nat) : (s.skipBits n).frame = s.frame := rfl
@[simp] theorem State.skipBits_pcfg (s : State) (n : Nat) : (s.skipBits n).pcfg = s.pcfg := rfl
@[simp] theorem State.skipBits_zero (s : State) : s.skipBits 0 = s := rfl

theorem BitInput.advanceBy_of_no_bits {p : BitInput} (h : p.bits = []) (n : Nat) : p.advanceBy n = p := by
  cases n with
  | zero => rfl
  | succ n => cases he : p.source.ended <;> simp [BitInput.advanceBy, BitInput.readBit_of_no_bits h, he]

/-- Reading on is reading more. -/
theorem BitInput.advanceBy_advanceBy (p : BitInput) (m n : Nat) : (p.advanceBy m).advanceBy n = p.advanceBy (m + n) := by
  induction m generalizing p with
  | zero => rw [Nat.zero_add]; rfl
  | succ m ih =>
    match hb : p.bits with
    | [] => simp only [BitInput.advanceBy_of_no_bits hb]
    | v :: rest =>
      obtain ⟨q, hr, -⟩ := BitInput.readBit_of_bits hb
      rw [Nat.add_right_comm]
      simp only [BitInput.advanceBy, hr, ih]

@[simp] theorem State.skipBits_skipBits (s : State) (m n : Nat) : (s.skipBits m).skipBits n = s.skipBits (m + n) := by
  simp only [State.skipBits, BitInput.advanceBy_advanceBy]

theorem State.skipBits_bits {s : State} {n : Nat} (h : n ≤ s.input.bits.length) :
    (s.skipBits n).input.bits = s.input.bits.drop n := BitInput.advanceBy_bits h

/-- The source's end does not change by reading. -/
theorem BitInput.advanceBy_ended (p : BitInput) (n : Nat) : (p.advanceBy n).source.ended = p.source.ended := by
  induction n generalizing p with
  | zero => rfl
  | succ n ih =>
    match hb : p.bits with
    | [] => rw [BitInput.advanceBy_of_no_bits hb]
    | v :: rest =>
      obtain ⟨q, hr, -⟩ := BitInput.readBit_of_bits hb
      obtain ⟨-, -, -, hended, -⟩ := BitInput.readBit_bit hr
      simp only [BitInput.advanceBy, hr, ih, hended]

theorem State.skipBits_writeScratch (s : State) (n : Nat) (b : Buf) (i : Nat) (v : Sample) :
    (s.skipBits n).writeScratch b i v = (s.writeScratch b i v).skipBits n := by cases b <;> rfl

theorem State.skipBits_writeFrom (s : State) (n : Nat) (b : Buf) (i : Nat) (vs : List Sample) :
    (s.skipBits n).writeFrom b i vs = (s.writeFrom b i vs).skipBits n := by
  induction vs generalizing s i with
  | nil => rfl
  | cons v vs ih => simp only [State.writeFrom, State.skipBits_writeScratch, ih]

@[simp] theorem State.writeFrom_frame (s : State) (b : Buf) (i : Nat) (vs : List Sample) :
    (s.writeFrom b i vs).frame = s.frame := by
  induction vs generalizing s i with
  | nil => rfl
  | cons v vs ih => simp [State.writeFrom, ih]

@[simp] theorem State.writeFrom_pcfg (s : State) (b : Buf) (i : Nat) (vs : List Sample) :
    (s.writeFrom b i vs).pcfg = s.pcfg := by
  induction vs generalizing s i with
  | nil => rfl
  | cons v vs ih => simp [State.writeFrom, ih]

@[simp] theorem State.writeFrom_input (s : State) (b : Buf) (i : Nat) (vs : List Sample) :
    (s.writeFrom b i vs).input = s.input := by
  induction vs generalizing s i with
  | nil => rfl
  | cons v vs ih => simp [State.writeFrom, ih]

theorem State.writeFrom_append (s : State) (b : Buf) (i : Nat) (vs ws : List Sample) :
    s.writeFrom b i (vs ++ ws) = (s.writeFrom b i vs).writeFrom b (i + vs.length) ws := by
  induction vs generalizing s i with
  | nil => rfl
  | cons v vs ih =>
    simp only [List.cons_append, State.writeFrom, List.length_cons, ih]
    rw [Nat.add_right_comm, Nat.add_assoc]

/-! ### Reaching a point of a command -/

/-- Running from `t` at `s` comes to `t'` at `s'` within `bound` sequencer steps. -/
def Reaches (bound : Nat) (t : Task) (s : State) (t' : Task) (s' : State) : Prop :=
  ∃ n ≤ bound, ∀ m, drive (n + m) t s = drive m t' s'

theorem Reaches.refl (t : Task) (s : State) : Reaches 0 t s t s := ⟨0, le_rfl, fun m => by rw [Nat.zero_add]⟩

theorem Reaches.go {t t' : Task} {s s' : State} (h : advance t s = .go t' s') : Reaches 1 t s t' s' :=
  ⟨1, le_rfl, fun m => by rw [Nat.add_comm, drive_go h]⟩

theorem Reaches.trans {j k : Nat} {t t' t'' : Task} {s s' s'' : State} (h : Reaches j t s t' s')
    (h' : Reaches k t' s' t'' s'') : Reaches (j + k) t s t'' s'' := by
  obtain ⟨m, hm, hdrive⟩ := h
  obtain ⟨n, hn, hdrive'⟩ := h'
  exact ⟨m + n, by omega, fun l => by rw [Nat.add_assoc, hdrive, hdrive']⟩

theorem Reaches.mono {j k : Nat} {t t' : Task} {s s' : State} (h : Reaches j t s t' s') (hjk : j ≤ k) :
    Reaches k t s t' s' := by
  obtain ⟨n, hn, hdrive⟩ := h
  exact ⟨n, hn.trans hjk, hdrive⟩

/-- `ReadBits` takes the bits at hand one by one, first bit most significant. -/
theorem reaches_reading {n : Nat} (r acc : Nat) (use : Purpose) {s : State} (h : n ≤ s.input.bits.length) :
    Reaches n (.reading (n + r) acc use) s
      (.reading r ((s.input.bits.take n).foldl (fun a b => 2 * a + b.toNat) acc) use) (s.skipBits n) := by
  induction n generalizing acc s with
  | zero => rw [Nat.zero_add]; exact .refl _ _
  | succ n ih =>
    match hb : s.input.bits with
    | [] => simp [hb] at h
    | v :: rest =>
      obtain ⟨q, hr, hq⟩ := BitInput.readBit_of_bits hb
      have hgo : advance (.reading (n + 1 + r) acc use) s =
          .go (.reading (n + r) (2 * acc + v.toNat) use) { s with input := q } := by
        rw [Nat.add_right_comm]
        simp [advance, advanceReading, hr]
      have hskip : State.skipBits { s with input := q } n = s.skipBits (n + 1) := by
        simp only [State.skipBits, BitInput.advanceBy, hr]
      have hrest := ih (2 * acc + v.toNat) (s := { s with input := q }) (by simpa [hq, hb] using h)
      simp only [hq, hskip] at hrest
      exact ((Reaches.go hgo).trans hrest).mono (by omega)

/-- A field that is at hand. -/
theorem reaches_field {n : Nat} (use : Purpose) {s : State} (h : n ≤ s.input.bits.length) :
    Reaches n (.reading n 0 use) s (.reading 0 (bitsValue (s.input.bits.take n)) use) (s.skipBits n) :=
  reaches_reading 0 0 use h

/-! ### Where the bits at hand end -/

/-- The index an end of stream at this point reports (R122). -/
def Task.bitIndex : Task → Option Nat
  | .reading _ _ use => use.endOfStreamIndex
  | .unary here _ _ => some here.idx
  | _ => none

/-- Running from `t` at `s` comes, within `bound` sequencer steps, to a ReadBit at `u`, where no bit is at hand; an end of
stream there is one of index `idx`. -/
def RunsOut (bound : Nat) (t : Task) (s : State) (idx : Option Nat) (u : State) : Prop :=
  ∃ t', Reaches bound t s t' u ∧ t'.needsBit = true ∧ t'.bitIndex = idx ∧ u.input.bits = []

theorem Reaches.runsOut {j k : Nat} {t t' : Task} {s s' u : State} {idx : Option Nat} (h : Reaches j t s t' s')
    (h' : RunsOut k t' s' idx u) : RunsOut (j + k) t s idx u := by
  obtain ⟨t'', hreach, hrest⟩ := h'
  exact ⟨t'', h.trans hreach, hrest⟩

theorem RunsOut.mono {j k : Nat} {t : Task} {s u : State} {idx : Option Nat} (h : RunsOut j t s idx u) (hjk : j ≤ k) :
    RunsOut k t s idx u := by
  obtain ⟨t', hreach, hrest⟩ := h
  exact ⟨t', hreach.mono hjk, hrest⟩

/-- A field that is cut short. -/
theorem runsOut_field {n : Nat} (use : Purpose) {s : State} (h : s.input.bits.length < n) :
    RunsOut n (.reading n 0 use) s use.endOfStreamIndex (s.skipBits s.input.bits.length) := by
  obtain ⟨r, rfl⟩ : ∃ r, n = s.input.bits.length + (r + 1) := ⟨n - s.input.bits.length - 1, by omega⟩
  exact ⟨_, (reaches_reading (r + 1) 0 use le_rfl).mono (by omega), rfl, rfl, by simp [State.skipBits_bits le_rfl]⟩

/-! ### Waiting for a byte (R102) -/

theorem BitInput.readBit_eq_wait_iff (p : BitInput) :
    p.readBit = .wait ↔ p.bufLeft = 0 ∧ p.source.bytes = [] ∧ p.source.ended = false := by
  obtain ⟨h0, hr⟩ | ⟨_, _, h0, hb, hr⟩ | ⟨h0, hb, he, hr⟩ | ⟨h0, hb, he, hr⟩ := p.readBit_cases <;> simp [*]

theorem BitInput.starved_iff (p : BitInput) : p.starved = true ↔ p.readBit = .wait := by
  simp [BitInput.starved, BitInput.readBit_eq_wait_iff, and_assoc]

theorem emitSample_ne_wait (s : State) (ch i : Nat) (v : Sample) (next : Task) : s.emitSample ch i v next ≠ .wait := by
  unfold State.emitSample
  split <;> nofun

theorem finishRead_ne_wait (use : Purpose) (v : Nat) (s : State) : finishRead use v s ≠ .wait := by
  cases use <;> simp only [finishRead, finishGetb, finishMethod, finishPartitionOrder, finishParameter, finishRawWidth,
    finishRawResidual, finishRemainder, finishPadding, finishFooterCrc] <;> (repeat' split) <;> nofun

theorem endOfStream_ne_wait (s : State) (left : Nat) (use : Purpose) : s.endOfStream left use ≠ .wait := by
  unfold State.endOfStream
  split
  · split <;> nofun
  · nofun

/-- A step that is no ReadBit does not wait. -/
theorem advance_ne_wait {t : Task} (h : t.needsBit = false) (s : State) : advance t s ≠ .wait := by
  cases t with
  | reading left acc use =>
    cases left with
    | zero => exact finishRead_ne_wait use acc s
    | succ rest => cases h
  | unary => cases h
  | nop | fstart | fendStart | raising => nofun
  | emit | decorLeft | decorRight =>
    simp only [advance, advanceEmit, advanceDecorLeft, advanceDecorRight]
    split
    · split
      · nofun
      · exact emitSample_ne_wait _ _ _ _ _
    · nofun
  | fcfg | partition | escaped | rice | emitStart | decorStart =>
    simp only [advance, advanceFcfg, advancePartition, advanceEscaped, advanceRice, advanceEmitStart, advanceDecorStart]
    split <;> nofun
  | getbStart | residStart | reconStart | recon | wshl =>
    simp only [advance, advanceGetbStart, advanceResidStart, advanceReconStart, advanceRecon, advanceWshl]
    (repeat' split) <;> nofun

/-- A sequencer step waits exactly when it is a ReadBit that has no byte and no end of stream. -/
theorem advance_eq_wait_iff (t : Task) (s : State) :
    advance t s = .wait ↔ t.needsBit = true ∧ s.input.readBit = .wait := by
  cases hbit : t.needsBit with
  | false => simp [advance_ne_wait hbit]
  | true =>
    cases t with
    | reading left acc use =>
      obtain ⟨rest, rfl⟩ := Nat.exists_eq_succ_of_ne_zero (of_decide_eq_true hbit)
      simp only [advance, advanceReading]
      cases hr : s.input.readBit <;> simp [endOfStream_ne_wait]
    | unary here k q =>
      simp only [advance, advanceUnary]
      cases hr : s.input.readBit with
      | bit v p => cases v <;> simp; split <;> nofun
      | endOfStream | wait => simp
    | _ => cases hbit

theorem State.waitIn_eq (s : State) :
    s.waitIn = true ↔ ∃ t, s.task = some t ∧ t.needsBit = true ∧ s.input.readBit = .wait := by
  unfold State.waitIn
  cases s.task <;> simp [BitInput.starved_iff]

theorem Task.needsBit_iff (t : Task) : t.needsBit = true ↔
    (∃ left acc use, t = .reading (left + 1) acc use) ∨ (∃ here k q, t = .unary here k q) := by
  cases t with
  | reading left acc use => cases left <;> simp [Task.needsBit]
  | unary => simp [Task.needsBit]
  | _ => simp [Task.needsBit]

/-- STATUS[8] is 1 exactly when a command in progress has a ReadBit to do that must wait (R20, R102). -/
theorem statusWord_waitIn (s : State) :
    (s.statusWord.getLsbD 8 = true ↔
      ((∃ (left acc : Nat) (use : Purpose), s.task = some (.reading (left + 1) acc use)) ∨
        (∃ (here : ResidPos) (k q : Nat), s.task = some (.unary here k q))) ∧
      s.input.bufLeft = 0 ∧ s.input.source.bytes = [] ∧ s.input.source.ended = false) ∧
    (s.statusWord.getLsbD 8 = true ↔ ∃ t : Task, s.task = some t ∧ advance t s = .wait) := by
  rw [show s.statusWord.getLsbD 8 = s.waitIn from s.statusWord_getLsbD 8, State.waitIn_eq]
  refine ⟨?_, by simp only [advance_eq_wait_iff]⟩
  simp only [Task.needsBit_iff, BitInput.readBit_eq_wait_iff]
  cases s.task with
  | none => simp
  | some t => simp

/-- An undisturbed command that runs out of bits at `u`, with no end of stream, waits there (R19, R102). -/
theorem waitsAt_of_runsOut {i : Instr} {s u : State} {bound : Nat} {idx : Option Nat} (ht : s.task = none)
    (hpace : s.pace = []) (hl : legalityOf i s.mode = .ok) (hbound : bound < Config.maxBurst)
    (h : RunsOut bound (startOf i) s idx u) (hended : u.input.source.ended = false) : waitsAt (exec i s) u := by
  obtain ⟨t, ⟨n, hn, hdrive⟩, hbit, -, hbits⟩ := h
  have hread : u.input.readBit = .wait := by rw [BitInput.readBit_of_no_bits hbits, hended]; rfl
  obtain ⟨m, hm⟩ : ∃ m, Config.maxBurst = n + (m + 1) := ⟨Config.maxBurst - n - 1, by omega⟩
  refine ⟨{ u with task := some t }, ?_, rfl, (State.waitIn_eq _).2 ⟨t, rfl, hbit, hread⟩, rfl⟩
  rw [exec_of_legal ht hl, State.run_undisturbed hpace, hm, hdrive, drive_wait ((advance_eq_wait_iff t u).2 ⟨hbit, hread⟩)]

/-! ### GETB and FEND -/

theorem runsOut_getb {n : Nat} (signed : Bool) {s : State} (h32 : n ≤ 32) (hshort : s.input.bits.length < n) :
    RunsOut (1 + n) (.getbStart signed n) s none (s.skipBits s.input.bits.length) := by
  have hstart : advance (.getbStart signed n) s = .go (.reading n 0 (.getb signed n)) s := by
    simp only [advance, advanceGetbStart]
    rw [if_neg (by omega), if_neg (by omega)]
  exact (Reaches.go hstart).runsOut (runsOut_field (.getb signed n) hshort)

theorem runsOut_fend {s : State} (h : s.fendOutOfBits) :
    RunsOut 32 .fendStart s none (s.skipBits s.input.bits.length) := by
  obtain ⟨hshort, hpad⟩ := h
  have hstart : Reaches 1 .fendStart s (.reading s.input.padding 0 .padding) s := .go rfl
  change s.input.bits.length < s.input.padding + 16 at hshort
  change s.input.bits.length < s.input.padding ∨ bitsValue (s.input.bits.take s.input.padding) = 0 at hpad
  have h7 : s.input.padding < 8 := Nat.mod_lt _ (by decide)
  by_cases hin : s.input.bits.length < s.input.padding
  · exact (hstart.runsOut (runsOut_field .padding hin)).mono (by omega)
  · have hvalue := hpad.resolve_left hin
    rw [Nat.not_lt] at hin
    have hpadding := reaches_field .padding hin
    rw [hvalue] at hpadding
    have hcrc : Reaches 1 (.reading 0 0 .padding) (s.skipBits s.input.padding) _ _ := .go rfl
    have hleft : (s.skipBits s.input.padding).input.bits.length = s.input.bits.length - s.input.padding := by
      rw [State.skipBits_bits hin, List.length_drop]
    have hcut := runsOut_field (n := 16) (.footerCrc (s.skipBits s.input.padding).input.crc16)
      (s := s.skipBits s.input.padding) (by omega)
    rw [hleft, State.skipBits_skipBits, Nat.add_sub_cancel' hin] at hcut
    exact (((hstart.trans hpadding).trans hcrc).runsOut hcut).mono (by omega)

end Sys2Proof.Machine
end

section
/-! RESID over the complete parts of a residual section (R83, R113, R118 to R120), and where the bits at hand end inside
it. -/

namespace Sys2Proof.Machine

/-! ### Fields of the section -/

theorem natBits_length (n v : Nat) : (natBits n v).length = n := by simp [natBits]

theorem natBits_succ (n v : Nat) : natBits (n + 1) v = v.testBit n :: natBits n v := by
  simp [natBits, List.range_succ]

/-- A field of `n` bits is worth its number modulo 2^n. -/
theorem bitsValue_natBits (n v : Nat) : bitsValue (natBits n v) = v % 2 ^ n := by
  induction n with
  | zero => simp [natBits, bitsValue, Nat.mod_one]
  | succ n ih =>
    rw [natBits_succ, bitsValue_cons, natBits_length, ih, Nat.mod_pow_succ, Nat.toNat_testBit]
    ring

theorem bitsValue_natBits_of_lt {n v : Nat} (h : v < 2 ^ n) : bitsValue (natBits n v) = v := by
  rw [bitsValue_natBits, Nat.mod_eq_of_lt h]

/-- The zigzag of a Rice value is its signed residual (R86). -/
theorem zigzag_eq_residualOf {v : Nat} (h : v < 2 ^ 32) : zigzag v = BitVec.ofInt 64 (residualOf v) := by
  have hand : BitVec.ofNat 64 v &&& 1 = BitVec.ofNat 64 (v % 2) := by
    apply BitVec.eq_of_toNat_eq
    simp [Nat.and_one_is_mod]
    omega
  have hshift : BitVec.ofNat 64 v >>> 1 = BitVec.ofNat 64 (v / 2) := by
    apply BitVec.eq_of_toNat_eq
    simp [Nat.shiftRight_eq_div_pow]
    omega
  unfold zigzag residualOf
  simp only [hand, hshift]
  split
  · next heven =>
    rw [heven, show -BitVec.ofNat 64 0 = 0 by rfl, BitVec.ofInt_natCast]
    exact BitVec.xor_zero
  · next hodd =>
    rw [show v % 2 = 1 by omega, show -BitVec.ofNat 64 1 = BitVec.allOnes 64 by rfl, BitVec.xor_allOnes]
    apply BitVec.eq_of_toNat_eq
    rw [BitVec.toNat_not, BitVec.toNat_ofNat, BitVec.toNat_ofInt]
    omega

/-- Quotient and remainder give the Rice value back (R120). -/
theorem shiftLeft_or_mod (k v : Nat) : (v / 2 ^ k) <<< k ||| v % 2 ^ k = v := by
  rw [← Nat.shiftLeft_add_eq_or_of_lt (Nat.mod_lt _ (Nat.two_pow_pos k)), Nat.shiftLeft_eq, Nat.div_add_mod']

/-- A raw field of width `w` holds its signed residual in two's complement (R119). -/
theorem sext_emod {w : Nat} {r : Int} (hlo : -(2 ^ w : Int) ≤ 2 * r) (hhi : 2 * r < 2 ^ w) :
    sext w (r % 2 ^ w).toNat = r := by
  cases w with
  | zero => simp [sext]; omega
  | succ w =>
    have hpow : (2 : Int) ^ (w + 1) = 2 * (2 ^ w : Nat) := by push_cast; ring
    rw [hpow] at hlo hhi
    unfold sext
    rw [if_neg (Nat.succ_ne_zero w), Nat.add_sub_cancel, hpow]
    by_cases hr : 0 ≤ r
    · have hmod : r % (2 * (2 ^ w : Nat)) = r := Int.emod_eq_of_lt hr (by omega)
      have hbit : r.toNat.testBit w = false := Nat.testBit_lt_two_pow (by omega)
      rw [hmod, hbit]
      simp [hr]
    · have hmod : r % (2 * (2 ^ w : Nat)) = r + 2 * (2 ^ w : Nat) := by
        rw [← Int.add_mul_emod_self_left r _ 1, mul_one]
        exact Int.emod_eq_of_lt (by omega) (by omega)
      have hbit : (r + 2 * (2 ^ w : Nat)).toNat.testBit w = true :=
        Nat.testBit_of_two_pow_le_and_two_pow_add_one_gt (by omega) (by omega)
      rw [hmod, hbit, if_pos rfl, Int.toNat_of_nonneg (by omega)]
      omega

/-! ### Runs of the sequencer that consume bits and store residuals -/

/-- With the configuration `f`, `c`: from `t`, with the bits `seg` at hand, the sequencer comes to `t'` within `bound`
steps; it has consumed them and stored `vals` in buffer `b` from index `i` on. -/
def Decodes (f : FrameConfig) (c : PredictorConfig) (bound : Nat) (t : Task) (seg : List Bool) (b : Buf) (i : Nat)
    (vals : List Sample) (t' : Task) : Prop :=
  ∀ (s : State) (rest : List Bool), s.frame = f → s.pcfg = c → s.input.bits = seg ++ rest →
    Reaches bound t s t' ((s.writeFrom b i vals).skipBits seg.length)

section
variable {f : FrameConfig} {c : PredictorConfig} {b : Buf} {i : Nat}

theorem Decodes.mono {j k : Nat} {t t' : Task} {seg : List Bool} {vals : List Sample}
    (h : Decodes f c j t seg b i vals t') (hjk : j ≤ k) : Decodes f c k t seg b i vals t' :=
  fun s rest hf hc hbits => (h s rest hf hc hbits).mono hjk

theorem Decodes.trans {j k : Nat} {t t' t'' : Task} {seg seg' : List Bool} {vals vals' : List Sample}
    (h : Decodes f c j t seg b i vals t') (h' : Decodes f c k t' seg' b (i + vals.length) vals' t'') :
    Decodes f c (j + k) t (seg ++ seg') b i (vals ++ vals') t'' := by
  intro s rest hf hc hbits
  rw [List.append_assoc] at hbits
  have hfirst := h s _ hf hc hbits
  have hnext := h' ((s.writeFrom b i vals).skipBits seg.length) rest (by simp [hf]) (by simp [hc])
    (by rw [State.skipBits_bits (by simp [hbits])]; simp [hbits])
  rw [State.skipBits_writeFrom, State.skipBits_skipBits, ← State.writeFrom_append] at hnext
  rw [List.length_append]
  exact hfirst.trans hnext

/-- A step that reads no bit and stores nothing. -/
theorem Decodes.go {t t' : Task} (h : ∀ s : State, s.frame = f → s.pcfg = c → advance t s = .go t' s) :
    Decodes f c 1 t [] b i [] t' := fun s _ hf hc _ => .go (h s hf hc)

theorem decodes_refl (t : Task) : Decodes f c 0 t [] b i [] t := fun s _ _ _ _ => .refl t s

theorem decodes_field {n v : Nat} (h : v < 2 ^ n) (use : Purpose) :
    Decodes f c n (.reading n 0 use) (natBits n v) b i [] (.reading 0 v use) := by
  intro s rest _ _ hbits
  have hfield := reaches_field (n := n) use (s := s) (by simp [hbits, natBits_length])
  rw [hbits, List.take_append_of_le_length (natBits_length n v).ge, List.take_of_length_le (natBits_length n v).le,
    bitsValue_natBits_of_lt h] at hfield
  rw [natBits_length]
  exact hfield

/-- The zeros of a unary quotient below its bound (R120, R121). -/
theorem decodes_zeros {here : ResidPos} {k q n : Nat} (h : q + n < quotientBound k) :
    Decodes f c n (.unary here k q) (List.replicate n false) b i [] (.unary here k (q + n)) := by
  induction n generalizing q with
  | zero => exact decodes_refl _
  | succ n ih =>
    have hzero : Decodes f c 1 (.unary here k q) [false] b i [] (.unary here k (q + 1)) := by
      intro s rest _ _ hbits
      obtain ⟨p, hr, -⟩ := BitInput.readBit_of_bits hbits
      refine .go ?_
      simp only [advance, advanceUnary, hr, if_neg (show ¬q + 1 = quotientBound k by omega)]
      simp [State.skipBits, State.writeFrom, BitInput.advanceBy, hr]
    have hrest := hzero.trans (ih (q := q + 1) (by omega))
    rw [Nat.add_right_comm, Nat.add_assoc] at hrest
    exact hrest.mono (by omega)

/-- The 1 that ends a unary quotient. -/
theorem decodes_one {here : ResidPos} {k q : Nat} :
    Decodes f c 1 (.unary here k q) [true] b i [] (.reading k 0 (.remainder here k q)) := by
  intro s rest _ _ hbits
  obtain ⟨p, hr, -⟩ := BitInput.readBit_of_bits hbits
  refine .go ?_
  simp [advance, advanceUnary, hr, State.skipBits, State.writeFrom, BitInput.advanceBy]

/-- Items decoded one after the other, each storing one residual. -/
theorem decodes_items {α : Type} {bound last : Nat} {T : Nat → Task} {enc : α → List Bool} {val : α → Sample} {xs : List α}
    (item : ∀ x ∈ xs, ∀ j, j < last → Decodes f c bound (T j) (enc x) b j [val x] (T (j + 1)))
    (h : i + xs.length ≤ last) :
    Decodes f c (xs.length * bound) (T i) (xs.flatMap enc) b i (xs.map val) (T (i + xs.length)) := by
  induction xs generalizing i with
  | nil => exact (decodes_refl _).mono (Nat.zero_le _)
  | cons x xs ih =>
    simp only [List.length_cons] at h
    have hrest := (item x (by simp) i (by omega)).trans
      (ih (i := i + 1) (fun y hy => item y (by simp [hy])) (by omega))
    rw [Nat.add_right_comm, Nat.add_assoc] at hrest
    exact hrest.mono (by simp [Nat.add_mul, Nat.add_comm])

/-! ### One residual -/

/-- More sequencer steps than one residual takes. -/
abbrev residualSteps : Nat := 8589934592

/-- The index at which a partition ends, with the configuration `f` (R113). -/
abbrev ResidPos.stop (here : ResidPos) (f : FrameConfig) : Nat := (here.part + 1) * (f.blockSize / 2 ^ here.order)

theorem ResidPos.partitionEnd_eq (here : ResidPos) {s : State} (h : s.frame = f) : s.partitionEnd here = here.stop f := by
  rw [← h]; rfl

theorem decodes_riceCode {here : ResidPos} {k v : Nat} (hk : k ≤ 32) (hv : v < 2 ^ 32) (hidx : here.idx < here.stop f) :
    Decodes f c residualSteps (.rice here k) (riceCode k v) here.buf here.idx [BitVec.ofInt 64 (residualOf v)]
      (.rice { here with idx := here.idx + 1 } k) := by
  have hq : v / 2 ^ k < quotientBound k := by
    rw [quotientBound, Nat.div_lt_iff_lt_mul (Nat.two_pow_pos k), ← Nat.pow_add, Nat.sub_add_cancel hk]
    exact hv
  have hloop : Decodes f c 1 (.rice here k) [] here.buf here.idx [] (.unary here k 0) := .go fun s hf _ => by
    simp only [advance, advanceRice, here.partitionEnd_eq hf, if_pos hidx]
  have hstore : Decodes f c 1 (.reading 0 (v % 2 ^ k) (.remainder here k (v / 2 ^ k))) [] here.buf here.idx
      [zigzag ((v / 2 ^ k) <<< k ||| v % 2 ^ k)] (.rice { here with idx := here.idx + 1 } k) :=
    fun s _ _ _ _ => .go rfl
  rw [shiftLeft_or_mod, zigzag_eq_residualOf hv] at hstore
  have hzeros := decodes_zeros (f := f) (c := c) (b := here.buf) (i := here.idx) (here := here) (k := k) (q := 0)
    (n := v / 2 ^ k) (by omega)
  rw [Nat.zero_add] at hzeros
  have hrest := decodes_field (f := f) (c := c) (b := here.buf) (i := here.idx)
    (Nat.mod_lt v (Nat.two_pow_pos k)) (.remainder here k (v / 2 ^ k))
  have hall := hloop.trans (hzeros.trans (decodes_one.trans (hrest.trans hstore)))
  have hsteps : v / 2 ^ k ≤ v := Nat.div_le_self _ _
  simp only [List.nil_append, List.append_nil] at hall
  exact hall.mono (by unfold residualSteps; omega)

theorem decodes_raw {here : ResidPos} {w : Nat} {r : Int} (hw : w ≤ 31) (hlo : -(2 ^ w : Int) ≤ 2 * r)
    (hhi : 2 * r < 2 ^ w) (hidx : here.idx < here.stop f) :
    Decodes f c residualSteps (.escaped here w) (natBits w (r % 2 ^ w).toNat) here.buf here.idx [BitVec.ofInt 64 r]
      (.escaped { here with idx := here.idx + 1 } w) := by
  have hloop : Decodes f c 1 (.escaped here w) [] here.buf here.idx [] (.reading w 0 (.rawResidual here w)) :=
    .go fun s hf _ => by simp only [advance, advanceEscaped, here.partitionEnd_eq hf, if_pos hidx]
  have hstore : Decodes f c 1 (.reading 0 (r % 2 ^ w).toNat (.rawResidual here w)) [] here.buf here.idx
      [BitVec.ofInt 64 (sext w (r % 2 ^ w).toNat)] (.escaped { here with idx := here.idx + 1 } w) :=
    fun s _ _ _ _ => .go rfl
  rw [sext_emod hlo hhi] at hstore
  have hpow : (0 : Int) < 2 ^ w := by positivity
  have hlt : (r % 2 ^ w).toNat < 2 ^ w := by
    have := Int.emod_lt_of_pos r hpow
    zify
    rw [Int.toNat_of_nonneg (Int.emod_nonneg r hpow.ne')]
    exact this
  have hall := hloop.trans ((decodes_field (f := f) (c := c) (b := here.buf) (i := here.idx) hlt
    (.rawResidual here w)).trans hstore)
  simp only [List.nil_append, List.append_nil] at hall
  exact hall.mono (by unfold residualSteps; omega)

/-! ### A partition -/

/-- The head of a partition's loop at index `j`. -/
def PartitionCode.task (here : ResidPos) : PartitionCode → Nat → Task
  | .rice k _, j => .rice { here with idx := j } k
  | .escaped w _, j => .escaped { here with idx := j } w

theorem PartitionCode.samples_length {wide : Bool} {count : Nat} {p : PartitionCode} (h : p.fits wide count = true) :
    p.samples.length = count := by
  cases p <;> simp only [PartitionCode.fits, Bool.and_eq_true, decide_eq_true_eq] at h <;>
    simp [PartitionCode.samples, h]

/-- The parameter field of a partition (R84, R118). -/
theorem decodes_parameter {here : ResidPos} {k : Nat} (hpart : here.part < 2 ^ here.order)
    (hk : k < 2 ^ parameterWidth here.wide) :
    Decodes f c 6 (.partition here) (natBits (parameterWidth here.wide) k) b i [] (.reading 0 k (.parameter here)) := by
  have hhead : Decodes f c 1 (.partition here) [] b i [] (.reading (parameterWidth here.wide) 0 (.parameter here)) :=
    .go fun s _ _ => if_pos hpart
  have hwidth : parameterWidth here.wide ≤ 5 := by unfold parameterWidth; split <;> decide
  exact (hhead.trans (decodes_field hk (.parameter here))).mono (by omega)

/-- The parameter field of an escaped partition, up to the raw width (R84, R119). -/
theorem decodes_escape {here : ResidPos} (hpart : here.part < 2 ^ here.order) :
    Decodes f c 7 (.partition here) (natBits (parameterWidth here.wide) (escapeValue here.wide)) b i []
      (.reading 5 0 (.rawWidth here)) := by
  have hgo : Decodes f c 1 (.reading 0 (escapeValue here.wide) (.parameter here)) [] b i []
      (.reading 5 0 (.rawWidth here)) := .go fun s _ _ => if_pos rfl
  have hall := (decodes_parameter (f := f) (c := c) (b := b) (i := i) hpart
    (by unfold parameterWidth escapeValue; split <;> decide)).trans hgo
  rwa [List.append_nil] at hall

/-- A partition from its parameter field through any number of its residuals (R118 to R120). -/
theorem decodes_partition {here : ResidPos} {p : PartitionCode} {count : Nat} (hfits : p.fits here.wide count = true)
    (hpart : here.part < 2 ^ here.order) (hcount : here.idx + count ≤ here.stop f) :
    Decodes f c (20 + count * residualSteps) (.partition here) (p.bits here.wide) here.buf here.idx p.samples
      (p.task here (here.idx + count)) := by
  cases p with
  | rice k vs =>
    simp only [PartitionCode.fits, Bool.and_eq_true, decide_eq_true_eq, List.all_eq_true] at hfits
    obtain ⟨⟨hk, rfl⟩, hvs⟩ := hfits
    have hk31 : k < 31 := hk.trans_le (by split <;> decide)
    have hk' : k < 2 ^ parameterWidth here.wide := by
      cases hwide : here.wide <;> simp only [hwide, parameterWidth] at hk ⊢ <;> exact Nat.lt_succ_of_lt hk
    have hgo : Decodes f c 1 (.reading 0 k (.parameter here)) [] here.buf here.idx [] (.rice here k) :=
      .go fun s _ _ => if_neg (Nat.ne_of_lt hk)
    have hitems := decodes_items (f := f) (c := c) (T := fun j => .rice { here with idx := j } k) (i := here.idx)
      (fun v hv j hj => decodes_riceCode (here := { here with idx := j }) (by omega) (hvs v hv) hj) hcount
    have hall := (decodes_parameter hpart hk').trans (hgo.trans hitems)
    exact hall.mono (by omega)
  | escaped w rs =>
    simp only [PartitionCode.fits, Bool.and_eq_true, decide_eq_true_eq, List.all_eq_true] at hfits
    obtain ⟨⟨hw, rfl⟩, hrs⟩ := hfits
    have hgo : Decodes f c 1 (.reading 0 w (.rawWidth here)) [] here.buf here.idx [] (.escaped here w) :=
      .go fun s _ _ => rfl
    have hraw := decodes_field (f := f) (c := c) (b := here.buf) (i := here.idx) (n := 5) (v := w) (by omega)
      (.rawWidth here)
    have hitems := decodes_items (f := f) (c := c) (T := fun j => .escaped { here with idx := j } w) (i := here.idx)
      (fun r hr j hj => decodes_raw (here := { here with idx := j }) hw (hrs r hr).1 (hrs r hr).2 hj) hcount
    have hall := (decodes_escape hpart).trans (hraw.trans (hgo.trans hitems))
    simp only [List.nil_append, ← List.append_assoc] at hall
    exact hall.mono (by omega)

/-! ### The section -/

/-- A whole partition, to the head of the next (R118). -/
theorem decodes_wholePartition {here : ResidPos} {p : PartitionCode} {count : Nat}
    (hfits : p.fits here.wide count = true) (hpart : here.part < 2 ^ here.order)
    (hcount : here.idx + count = here.stop f) :
    Decodes f c (21 + count * residualSteps) (.partition here) (p.bits here.wide) here.buf here.idx p.samples
      (.partition { here with part := here.part + 1, idx := here.idx + count }) := by
  have hnext : Decodes f c 1 (p.task here (here.idx + count)) [] here.buf (here.idx + p.samples.length) []
      (.partition { here with part := here.part + 1, idx := here.idx + count }) := .go fun s hf _ => by
    have hend : ∀ j, s.partitionEnd { here with idx := j } = here.idx + count := fun j =>
      (ResidPos.partitionEnd_eq _ hf).trans hcount.symm
    cases p <;>
      simp only [PartitionCode.task, advance, advanceRice, advanceEscaped, hend, lt_irrefl, if_false, State.nextPartition]
  have hall := (decodes_partition (f := f) (c := c) hfits hpart hcount.le).trans hnext
  simp only [List.append_nil] at hall
  exact hall.mono (by omega)

/-- The residuals of partitions that fit their counts. -/
theorem partitionsFit_length {wide : Bool} {first later : Nat} {done : List PartitionCode}
    (h : partitionsFit wide first later done = true) :
    (done.flatMap PartitionCode.samples).length = if done.isEmpty then 0 else first + (done.length - 1) * later := by
  induction done generalizing first with
  | nil => rfl
  | cons p ps ih =>
    simp only [partitionsFit, Bool.and_eq_true] at h
    simp only [List.flatMap_cons, List.length_append, PartitionCode.samples_length h.1, ih h.2]
    cases ps <;> simp [Nat.add_mul, Nat.add_comm]

/-- Complete partitions one after the other, from the head of the first to the head of the next (R118). -/
theorem decodes_partitions {here : ResidPos} {first : Nat} {done : List PartitionCode}
    (hfit : partitionsFit here.wide first (f.blockSize / 2 ^ here.order) done = true)
    (hfirst : here.idx + first = here.stop f) (hpart : here.part + done.length ≤ 2 ^ here.order) :
    Decodes f c (21 * done.length + (done.flatMap PartitionCode.samples).length * residualSteps) (.partition here)
      (done.flatMap (PartitionCode.bits here.wide)) here.buf here.idx (done.flatMap PartitionCode.samples)
      (.partition { here with
        part := here.part + done.length, idx := here.idx + (done.flatMap PartitionCode.samples).length }) := by
  induction done generalizing here first with
  | nil => exact (decodes_refl _).mono (Nat.zero_le _)
  | cons p ps ih =>
    simp only [partitionsFit, Bool.and_eq_true] at hfit
    obtain ⟨hfits, hrest⟩ := hfit
    simp only [List.length_cons] at hpart
    have hlen := PartitionCode.samples_length hfits
    have hp := decodes_wholePartition (f := f) (c := c) hfits (by omega) hfirst
    have hps := ih (here := { here with part := here.part + 1, idx := here.idx + first })
      (first := f.blockSize / 2 ^ here.order) hrest
      (by simp only [hfirst, ResidPos.stop]; ring) (by simp only; omega)
    rw [← hlen] at hp hps
    have hall := hp.trans hps
    simp only [List.flatMap_cons, List.length_append, List.length_cons]
    rw [Nat.add_comm ps.length 1, ← Nat.add_assoc here.part, ← Nat.add_assoc here.idx]
    exact hall.mono (by unfold residualSteps; omega)

/-- The method and the partition order, which R115 to R117 let pass (R113). -/
theorem decodes_header {wide : Bool} {po : Nat} (hlegal : c.legal = true) (hshift : c.negativeShift = false)
    (hpo : po ≤ 15) (hdiv : f.blockSize % 2 ^ po = 0) (horder : c.order.toNat ≤ f.blockSize / 2 ^ po) :
    Decodes f c 9 (.residStart b) (natBits 2 wide.toNat ++ natBits 4 po) b c.order.toNat []
      (.partition { buf := b, wide := wide, order := po, part := 0, idx := c.order.toNat }) := by
  have hstart : Decodes f c 1 (.residStart b) [] b c.order.toNat [] (.reading 2 0 (.method b)) := .go fun s _ hc => by
    simp [advance, advanceResidStart, hc, hlegal, hshift]
  have hmethod : Decodes f c 1 (.reading 0 wide.toNat (.method b)) [] b c.order.toNat []
      (.reading 4 0 (.partitionOrder b wide)) := .go fun s _ _ => by cases wide <;> rfl
  have horder' : Decodes f c 1 (.reading 0 po (.partitionOrder b wide)) [] b c.order.toNat []
      (.partition { buf := b, wide := wide, order := po, part := 0, idx := c.order.toNat }) := .go fun s hf hc => by
    simp only [advance_reading_zero, finishRead, finishPartitionOrder, State.partitionLength, hf, hc, hdiv]
    rw [if_neg (by simp), if_neg (Nat.not_lt.2 horder)]
  have hall := hstart.trans ((decodes_field (f := f) (c := c) (b := b) (i := c.order.toNat) (n := 2)
    (v := wide.toNat) (by cases wide <;> decide) (.method b)).trans (hmethod.trans
    ((decodes_field (f := f) (c := c) (b := b) (i := c.order.toNat) (n := 4) (v := po) (by omega)
      (.partitionOrder b wide)).trans horder')))
  simp only [List.nil_append, List.append_nil] at hall
  exact hall.mono (by omega)

/-- The section up to its first incomplete partition (R83). -/
theorem decodes_section {wide : Bool} {po : Nat} {done : List PartitionCode} (hlegal : c.legal = true)
    (hshift : c.negativeShift = false) (hopen : sectionOpen wide po f.blockSize c.order.toNat done = true) :
    Decodes f c (9 + (21 * done.length + (done.flatMap PartitionCode.samples).length * residualSteps)) (.residStart b)
      (sectionBits wide po done) b c.order.toNat (done.flatMap PartitionCode.samples)
      (.partition
        { buf := b
          wide := wide
          order := po
          part := done.length
          idx := c.order.toNat + (done.flatMap PartitionCode.samples).length }) := by
  simp only [sectionOpen, Bool.and_eq_true, decide_eq_true_eq] at hopen
  obtain ⟨⟨⟨⟨hpo, hdiv⟩, horder⟩, hlen⟩, hfit⟩ := hopen
  have hparts := decodes_partitions (f := f) (c := c)
    (here := { buf := b, wide := wide, order := po, part := 0, idx := c.order.toNat }) hfit
    (by simp only [ResidPos.stop]; omega) (by simp only; omega)
  have hall := (decodes_header (f := f) (c := c) (b := b) (wide := wide) hlegal hshift hpo hdiv horder).trans hparts
  simpa only [Nat.zero_add, List.nil_append, sectionBits] using hall

/-- The partition after the complete ones ends where its count says, and not above N (R116, R118). -/
theorem nextCount_stop {wide : Bool} {po n ord : Nat} {done : List PartitionCode}
    (hopen : sectionOpen wide po n ord done = true) :
    ord + (done.flatMap PartitionCode.samples).length + nextCount po n ord done = (done.length + 1) * (n / 2 ^ po) ∧
      (done.length + 1) * (n / 2 ^ po) ≤ n := by
  simp only [sectionOpen, Bool.and_eq_true, decide_eq_true_eq] at hopen
  obtain ⟨⟨⟨⟨-, -⟩, horder⟩, hlen⟩, hfit⟩ := hopen
  refine ⟨?_, (Nat.mul_le_mul_right _ hlen).trans (Nat.mul_div_le _ _)⟩
  rw [partitionsFit_length hfit, nextCount]
  cases done with
  | nil => simp; omega
  | cons p ps =>
    have hmul : (ps.length + 1 + 1) * (n / 2 ^ po) = ps.length * (n / 2 ^ po) + n / 2 ^ po + n / 2 ^ po := by ring
    simp only [List.isEmpty_cons, Bool.false_eq_true, if_false, List.length_cons, Nat.add_sub_cancel, hmul]
    omega

/-! ### Where the bits at hand end -/

/-- With the bits `tail` at hand and no others, the sequencer comes from `t`, without storing, to a ReadBit that has no
bit; an end of stream there is one of index `idx`. -/
def Cut (f : FrameConfig) (c : PredictorConfig) (bound : Nat) (t : Task) (idx : Option Nat) (tail : List Bool) : Prop :=
  ∀ s : State, s.frame = f → s.pcfg = c → s.input.bits = tail → RunsOut bound t s idx (s.skipBits tail.length)

theorem Cut.mono {j k : Nat} {t : Task} {idx : Option Nat} {tail : List Bool} (h : Cut f c j t idx tail) (hjk : j ≤ k) :
    Cut f c k t idx tail := fun s hf hc hbits => (h s hf hc hbits).mono hjk

theorem cut_field {n : Nat} {tail : List Bool} (h : tail.length < n) (use : Purpose) :
    Cut f c n (.reading n 0 use) use.endOfStreamIndex tail := by
  rintro s - - rfl
  exact runsOut_field use h

theorem cut_unary (here : ResidPos) (k q : Nat) : Cut f c 0 (.unary here k q) (some here.idx) [] :=
  fun s _ _ hbits => ⟨_, .refl _ s, rfl, rfl, hbits⟩

/-- The bits that are decoded are followed by a part that is cut. -/
theorem Decodes.runsOut {j k : Nat} {t t' : Task} {seg tail : List Bool} {vals : List Sample} {idx : Option Nat}
    (h : Decodes f c j t seg b i vals t') (h' : Cut f c k t' idx tail) {s : State} (hf : s.frame = f) (hc : s.pcfg = c)
    (hbits : s.input.bits = seg ++ tail) :
    RunsOut (j + k) t s idx ((s.writeFrom b i vals).skipBits s.input.bits.length) := by
  have hcut := h' ((s.writeFrom b i vals).skipBits seg.length) (by simp [hf]) (by simp [hc])
    (by rw [State.skipBits_bits (by simp [hbits])]; simp [hbits])
  rw [State.skipBits_skipBits, ← List.length_append, ← hbits] at hcut
  exact (h s tail hf hc hbits).runsOut hcut

/-- A part that stores nothing, followed by a part that is cut; the buffer and the index then name nothing. -/
theorem Decodes.cut {j k : Nat} {t t' : Task} {seg tail : List Bool} {idx : Option Nat}
    (h : Decodes f c j t seg .s0 0 [] t') (h' : Cut f c k t' idx tail) : Cut f c (j + k) t idx (seg ++ tail) := by
  intro s hf hc hbits
  have := h.runsOut h' hf hc hbits
  rwa [hbits] at this

/-- A residual that is cut: a Rice code in its quotient or its remainder, or a raw field (R122). -/
theorem cut_residual {here : ResidPos} {p : PartitionCode} {wide : Bool} {count j : Nat} {tail : List Bool}
    (hfits : p.fits wide count = true) (hcut : p.cutBy tail) (hj : j < here.stop f) :
    Cut f c residualSteps (p.task here j) (some j) tail := by
  cases p with
  | rice k vs =>
    have hk : k < 31 := by
      simp only [PartitionCode.fits, Bool.and_eq_true, decide_eq_true_eq] at hfits
      exact hfits.1.1.trans_le (by split <;> decide)
    obtain ⟨q, hq, htail⟩ := hcut
    have hbound : q < 2 ^ 32 := hq.trans_le (Nat.pow_le_pow_right (by decide) (by omega))
    have hloop : Decodes f c 1 (.rice { here with idx := j } k) [] .s0 0 [] (.unary { here with idx := j } k 0) :=
      .go fun s hf _ => by
        simp only [advance, advanceRice, ResidPos.partitionEnd_eq _ hf, ResidPos.stop]
        exact if_pos hj
    have hzeros := hloop.trans (decodes_zeros (f := f) (c := c) (b := .s0) (i := 0) (here := { here with idx := j })
      (k := k) (q := 0) (n := q) (by rw [Nat.zero_add]; exact hq))
    obtain rfl | ⟨r, hr, rfl⟩ := htail
    · have hall := hzeros.cut (cut_unary (f := f) (c := c) _ _ _)
      rw [List.append_nil, List.nil_append] at hall
      exact hall.mono (by unfold residualSteps; omega)
    · have hall := (hzeros.trans decodes_one).cut
        (cut_field (f := f) (c := c) hr (.remainder { here with idx := j } k (0 + q)))
      rw [List.nil_append, List.append_assoc] at hall
      exact hall.mono (by unfold residualSteps; omega)
  | escaped w rs =>
    have hw : w ≤ 31 := by
      simp only [PartitionCode.fits, Bool.and_eq_true, decide_eq_true_eq] at hfits
      exact hfits.1.1
    have hloop : Decodes f c 1 (.escaped { here with idx := j } w) [] .s0 0 []
        (.reading w 0 (.rawResidual { here with idx := j } w)) := .go fun s hf _ => by
      simp only [advance, advanceEscaped, ResidPos.partitionEnd_eq _ hf, ResidPos.stop]
      exact if_pos hj
    have hall := hloop.cut (cut_field (f := f) (c := c) hcut (.rawResidual { here with idx := j } w))
    exact hall.mono (by unfold residualSteps; omega)

/-- A partition whose parameter is cut. -/
theorem cut_parameter {here : ResidPos} {tail : List Bool} (hpart : here.part < 2 ^ here.order)
    (hshort : tail.length < parameterWidth here.wide) : Cut f c 6 (.partition here) none tail := by
  have hhead : Decodes f c 1 (.partition here) [] .s0 0 [] (.reading (parameterWidth here.wide) 0 (.parameter here)) :=
    .go fun s _ _ => if_pos hpart
  have hwidth : parameterWidth here.wide ≤ 5 := by unfold parameterWidth; split <;> decide
  exact (hhead.cut (cut_field hshort (.parameter here))).mono (by omega)

/-- An escaped partition whose raw width is cut. -/
theorem cut_rawWidth {here : ResidPos} {tail : List Bool} (hpart : here.part < 2 ^ here.order)
    (hshort : tail.length < 5) :
    Cut f c 12 (.partition here) none (natBits (parameterWidth here.wide) (escapeValue here.wide) ++ tail) :=
  (decodes_escape hpart).cut (cut_field hshort (.rawWidth here))

/-- The method or the partition order is cut (R115, R116). -/
theorem runsOut_header {s : State} (hlegal : s.pcfg.legal = true) (hshift : s.pcfg.negativeShift = false)
    (hshort : s.input.bits.length < 6) (hmethod : s.input.bits.length < 2 ∨ bitsValue (s.input.bits.take 2) < 2) :
    RunsOut 20 (.residStart b) s none (s.skipBits s.input.bits.length) := by
  have hstart : Reaches 1 (.residStart b) s (.reading 2 0 (.method b)) s := .go (by
    simp [advance, advanceResidStart, hlegal, hshift])
  by_cases hin : s.input.bits.length < 2
  · exact (hstart.runsOut (runsOut_field (.method b) hin)).mono (by omega)
  · have hvalue := hmethod.resolve_left hin
    rw [Nat.not_lt] at hin
    have hgo : Reaches 1 (.reading 0 (bitsValue (s.input.bits.take 2)) (.method b)) (s.skipBits 2)
        (.reading 4 0 (.partitionOrder b (decide (bitsValue (s.input.bits.take 2) = 1)))) (s.skipBits 2) :=
      .go (if_neg (Nat.not_le.2 hvalue))
    have hleft : (s.skipBits 2).input.bits.length = s.input.bits.length - 2 := by
      rw [State.skipBits_bits hin, List.length_drop]
    have hcut := runsOut_field (n := 4) (.partitionOrder b (decide (bitsValue (s.input.bits.take 2) = 1)))
      (s := s.skipBits 2) (by omega)
    rw [hleft, State.skipBits_skipBits, Nat.add_sub_cancel' hin] at hcut
    exact (((hstart.trans (reaches_field (.method b) hin)).trans hgo).runsOut hcut).mono (by omega)

theorem residReached_eq (s : State) (b : Buf) (parts : List PartitionCode) :
    s.residReached b parts =
      (s.writeFrom b s.pcfg.order.toNat (parts.flatMap PartitionCode.samples)).skipBits s.input.bits.length := by
  rw [State.residReached, State.skipBits, State.writeFrom_input]

/-- A section has less than 2^15 complete partitions before its last, with less than N residuals. -/
theorem sectionOpen_bound {wide : Bool} {po n ord : Nat} {done : List PartitionCode}
    (hopen : sectionOpen wide po n ord done = true) :
    done.length < 2 ^ po ∧ done.length < 32768 ∧ (done.flatMap PartitionCode.samples).length ≤ n := by
  obtain ⟨hstop, hle⟩ := nextCount_stop hopen
  simp only [sectionOpen, Bool.and_eq_true, decide_eq_true_eq] at hopen
  obtain ⟨⟨⟨⟨hpo, -⟩, -⟩, hlen⟩, -⟩ := hopen
  have hpow : 2 ^ po ≤ 2 ^ 15 := Nat.pow_le_pow_right (by decide) hpo
  exact ⟨hlen, by omega, by omega⟩

/-- RESID with the bits at hand ending inside its section: it comes to a ReadBit without a bit, having stored the
residuals before it, in less than 2^63 steps. -/
theorem runsOut_resid {s u : State} {idx : Option Nat} (hlegal : s.pcfg.legal = true)
    (hshift : s.pcfg.negativeShift = false) (h : ResidOutOfBits s b idx u) :
    RunsOut (2 ^ 63) (.residStart b) s idx u := by
  have hN : s.frame.blockSize < 131072 := s.frame.blockSize_lt
  cases h with
  | header short method =>
    rw [residReached_eq]
    exact (runsOut_header hlegal hshift short method).mono (by decide)
  | parameter wide po done tail opened short bits =>
    obtain ⟨hpart, hdone, hsamples⟩ := sectionOpen_bound opened
    rw [residReached_eq]
    exact ((decodes_section hlegal hshift opened).runsOut (cut_parameter hpart short) rfl rfl bits).mono
      (by unfold residualSteps; omega)
  | rawWidth wide po done tail opened short bits =>
    obtain ⟨hpart, hdone, hsamples⟩ := sectionOpen_bound opened
    rw [residReached_eq]
    rw [List.append_assoc] at bits
    exact ((decodes_section hlegal hshift opened).runsOut (cut_rawWidth hpart short) rfl rfl bits).mono
      (by unfold residualSteps; omega)
  | residual wide po done here tail opened begun cut bits =>
    obtain ⟨hpart, hdone, hsamples⟩ := sectionOpen_bound opened
    obtain ⟨hstop, hle⟩ := nextCount_stop opened
    simp only [PartitionCode.begun, Bool.and_eq_true, decide_eq_true_eq] at begun
    obtain ⟨hfits, hbegun⟩ := begun
    have hpartition := decodes_partition (f := s.frame) (c := s.pcfg)
      (here := { buf := b, wide := wide, order := po, part := done.length,
                 idx := s.pcfg.order.toNat + (done.flatMap PartitionCode.samples).length })
      hfits hpart (by simp only [ResidPos.stop]; omega)
    have hcut := cut_residual (f := s.frame) (c := s.pcfg)
      (here := { buf := b, wide := wide, order := po, part := done.length,
                 idx := s.pcfg.order.toNat + (done.flatMap PartitionCode.samples).length })
      (j := s.pcfg.order.toNat + (done.flatMap PartitionCode.samples).length + here.samples.length)
      hfits cut (by simp only [ResidPos.stop]; omega)
    have hall := ((decodes_section hlegal hshift opened).trans hpartition).runsOut hcut rfl rfl
      (bits.trans (by simp [sectionBits]))
    rw [residReached_eq]
    simp only [List.flatMap_append, List.flatMap_cons, List.flatMap_nil, List.append_nil, List.length_append,
      ← Nat.add_assoc]
    exact hall.mono (by unfold residualSteps; omega)

end

theorem ResidOutOfBits.input {s u : State} {b : Buf} {idx : Option Nat} (h : ResidOutOfBits s b idx u) :
    u.input = s.input.advanceBy s.input.bits.length := by
  cases h <;> rfl

/-- Settles O22: each command runs out of bits at the state named and waits there; STATUS[8] is `statusWord_waitIn`. -/
theorem commandsWaitForTheByteSource : Obligations.CommandsWaitForTheByteSource := by
  have hburst : 33 < Config.maxBurst ∧ 2 ^ 63 < Config.maxBurst := by unfold Config.maxBurst; omega
  refine ⟨fun s n i ⟨hl, ht, hpace⟩ h32 hi hshort hended => ?_,
    fun s u b idx ⟨hmode, ht, hpace⟩ hlegal hshift hout hended => ?_,
    fun s ⟨hmode, ht, hpace⟩ hout hended => ?_, statusWord_waitIn⟩
  · have hbound : 1 + n < Config.maxBurst := by omega
    have hended' := (s.input.advanceBy_ended s.input.bits.length).trans hended
    obtain rfl | rfl := hi
    · exact waitsAt_of_runsOut ht hpace hl hbound (runsOut_getb false h32 hshort) hended'
    · exact waitsAt_of_runsOut ht hpace hl hbound (runsOut_getb true h32 hshort) hended'
  · refine waitsAt_of_runsOut ht hpace (by rw [hmode]; rfl) hburst.2 (runsOut_resid hlegal hshift hout) ?_
    rw [hout.input, BitInput.advanceBy_ended, hended]
  · exact waitsAt_of_runsOut ht hpace (by rw [hmode]; rfl) (by omega) (runsOut_fend hout)
      ((s.input.advanceBy_ended _).trans hended)

end Sys2Proof.Machine
end

section
/-! Where a command pauses (log entry 2): the sequencer does not look at the task stored in the state, and a step lets
the command in progress go on. -/

namespace Sys2Proof.Machine

/-! ### The stored task -/

/-- The state with another task stored. -/
def State.withTask (s : State) (o : Option Task) : State := { s with task := o }

/-- A sequencer step's answer with another task stored in its state. -/
def Advance.withTask (o : Option Task) : Advance → Advance
  | .go t s => .go t (s.withTask o)
  | .done s => .done (s.withTask o)
  | .raise e s => .raise e (s.withTask o)
  | .wait => .wait
  | .fault f => .fault f

section
variable (s : State) (o : Option Task)

@[simp] theorem State.withTask_frame : (s.withTask o).frame = s.frame := rfl
@[simp] theorem State.withTask_pcfg : (s.withTask o).pcfg = s.pcfg := rfl
@[simp] theorem State.withTask_input : (s.withTask o).input = s.input := rfl

@[simp] theorem State.withTask_readScratch (b : Buf) (i : Nat) :
    (s.withTask o).readScratch b i = s.readScratch b i := by cases b <;> rfl

@[simp] theorem State.withTask_writeScratch (b : Buf) (i : Nat) (v : Sample) :
    (s.withTask o).writeScratch b i v = (s.writeScratch b i v).withTask o := by cases b <;> rfl

@[simp] theorem State.withTask_stereoPair (i : Nat) : (s.withTask o).stereoPair i = s.stereoPair i := by
  simp only [State.stereoPair, State.withTask_readScratch]

@[simp] theorem State.withTask_accumulate (b : Buf) (c : List Sample) (i : Nat) (acc : Sample) :
    (s.withTask o).accumulate b c i acc = s.accumulate b c i acc := by
  induction c generalizing i acc with
  | nil => rfl
  | cons c cs ih => simp only [State.accumulate, State.withTask_readScratch, ih]

@[simp] theorem State.withTask_lpcCoefs (n j : Nat) : (s.withTask o).lpcCoefs n j = s.lpcCoefs n j := by
  induction n generalizing j with
  | zero => rfl
  | succ n ih => simp only [State.lpcCoefs, ih]; rfl

@[simp] theorem State.withTask_predictorCoefs : (s.withTask o).predictorCoefs = s.predictorCoefs := by
  simp only [State.predictorCoefs, State.withTask_pcfg, State.withTask_lpcCoefs]

@[simp] theorem Advance.withTask_ite (c : Prop) [Decidable c] (a b : Advance) :
    (if c then a else b).withTask o = if c then a.withTask o else b.withTask o := apply_ite _ c a b

theorem emitSample_withTask (ch i : Nat) (v : Sample) (next : Task) :
    (s.withTask o).emitSample ch i v next = (s.emitSample ch i v next).withTask o := by
  rw [State.emitSample, State.emitSample, Advance.withTask_ite]
  rfl

theorem finishRead_withTask (use : Purpose) (v : Nat) :
    finishRead use v (s.withTask o) = (finishRead use v s).withTask o := by
  cases use with
  | getb | rawWidth => rfl
  | rawResidual | remainder =>
    simp only [finishRead, finishRawResidual, finishRemainder, State.withTask_writeScratch, Advance.withTask]
  | method | parameter | padding | partitionOrder | footerCrc =>
    simp only [finishRead, finishMethod, finishParameter, finishPadding, finishPartitionOrder, finishFooterCrc,
      Advance.withTask_ite]
    rfl

theorem endOfStream_withTask (left : Nat) (use : Purpose) :
    (s.withTask o).endOfStream left use = (s.endOfStream left use).withTask o := by
  cases use with
  | getb signed n =>
    simp only [State.endOfStream, Advance.withTask_ite]
    rfl
  | _ => rfl

/-- The stored task has no part in a sequencer step. -/
theorem advance_withTask (t : Task) : advance t (s.withTask o) = (advance t s).withTask o := by
  cases t with
  | nop | fstart | fendStart | raising => rfl
  | fcfg =>
    simp only [advance, advanceFcfg, State.withTask_frame]
    cases s.frame.firstError <;> rfl
  | reading left acc use =>
    cases left with
    | zero => exact finishRead_withTask s o use acc
    | succ rest =>
      simp only [advance, advanceReading, State.withTask_input]
      cases s.input.readBit with
      | bit | wait => rfl
      | endOfStream => exact endOfStream_withTask s o _ use
  | unary here k q =>
    simp only [advance, advanceUnary, State.withTask_input]
    cases s.input.readBit with
    | bit v p =>
      cases v with
      | true => rfl
      | false =>
        simp only [Advance.withTask_ite]
        rfl
    | endOfStream | wait => rfl
  | getbStart | residStart | partition | escaped | rice | emitStart | decorStart =>
    simp only [advance, advanceGetbStart, advanceResidStart, advancePartition, advanceEscaped, advanceRice,
      advanceEmitStart, advanceDecorStart, Advance.withTask_ite]
    rfl
  | reconStart b =>
    simp only [advance, advanceReconStart, Advance.withTask_ite, State.withTask_predictorCoefs]
    cases s.predictorCoefs <;> rfl
  | recon b i c sh =>
    simp only [advance, advanceRecon, Advance.withTask_ite, State.withTask_accumulate, State.withTask_readScratch,
      State.withTask_writeScratch]
    cases s.accumulate b c i 0 with
    | error => rfl
    | ok acc => cases s.readScratch b i <;> rfl
  | wshl b k i =>
    simp only [advance, advanceWshl, Advance.withTask_ite, State.withTask_readScratch, State.withTask_writeScratch]
    cases s.readScratch b i <;> rfl
  | emit b ch i =>
    simp only [advance, advanceEmit, Advance.withTask_ite, State.withTask_readScratch, emitSample_withTask]
    cases s.readScratch b i <;> rfl
  | decorLeft i | decorRight i =>
    simp only [advance, advanceDecorLeft, advanceDecorRight, Advance.withTask_ite, State.withTask_stereoPair,
      State.withTask_frame, emitSample_withTask]
    cases s.stereoPair i <;> rfl

/-- The stored task has no part in the run of a command. -/
theorem drive_withTask (n : Nat) (t : Task) : drive n t (s.withTask o) = drive n t s := by
  induction n generalizing t s with
  | zero => rfl
  | succ n ih =>
    rw [drive_succ, drive_succ, advance_withTask]
    cases advance t s with
    | go t' s' => exact ih s' t'
    | done | raise | wait | fault => rfl

end

/-! ### Pauses -/

/-- A command that waits still waits when it goes on, for however many steps. -/
theorem drive_of_wait {t : Task} {s : State} (h : advance t s = .wait) (n : Nat) :
    drive n t s = .next (s.withTask (some t)) := by
  cases n with
  | zero => rfl
  | succ n => exact drive_wait h

/-- Settles O59, by induction on the first run: a pause or a wait changes only the stored task, which `drive_withTask`
ignores, and a command that has stopped has none stored. -/
theorem pausingDoesNotChangeACommand : Obligations.PausingDoesNotChangeACommand := by
  intro m n t s
  induction m generalizing t s with
  | zero =>
    rw [Nat.zero_add]
    exact (drive_withTask s (some t) n t).symm
  | succ m ih =>
    rw [Nat.add_right_comm, drive_succ, drive_succ]
    cases ha : advance t s with
    | go t' s' => exact ih t' s'
    | done | raise | fault => rfl
    | wait => exact (drive_of_wait ha n).symm.trans (drive_withTask s (some t) n t).symm

/-- Settles O6: with no event the command resumes; with one it resumes after the event. -/
theorem stepResumesCommandInProgress : Obligations.StepResumesCommandInProgress := by
  refine ⟨fun s t ht he => ?_, fun s s' t e rest ht he hperform => ?_⟩
  · rw [step_no_event he, State.resume, ht]
  · rw [step_busy he (by simp [ht]), hperform, resumeAfter]

end Sys2Proof.Machine
end

section
/-! Reading bits that are at hand (R61, R103, R107), and GETB (R112). -/

namespace Sys2Proof.Machine

/-- What every consumed bit updates, a run of bits updates bit by bit. -/
theorem BitInput.advanceBy_foldl {α : Type} {f : BitInput → α} {update : α → Bool → α}
    (hf : ∀ p v q, BitInput.readBit p = .bit v q → f q = update (f p) v) {p : BitInput} {n : Nat}
    (h : n ≤ p.bits.length) : f (p.advanceBy n) = (p.bits.take n).foldl update (f p) := by
  induction n generalizing p with
  | zero => rfl
  | succ n ih =>
    match hb : p.bits with
    | [] => simp [hb] at h
    | v :: rest =>
      obtain ⟨q, hr, hq⟩ := BitInput.readBit_of_bits hb
      have hn : n ≤ q.bits.length := by simpa [hq, hb] using h
      simp only [BitInput.advanceBy, hr, ih hn, hq, hf p v q hr, List.take_succ_cons, List.foldl_cons]

/-- BITPOS counts the bits modulo 2^64 (R41). -/
theorem BitInput.advanceBy_bitPos {p : BitInput} {n : Nat} (h : n ≤ p.bits.length) :
    (p.advanceBy n).bitPos = p.bitPos + BitVec.ofNat 64 n := by
  rw [BitInput.advanceBy_foldl (f := BitInput.bitPos) (update := fun pos _ => pos + 1)
    (fun p v q hr => (BitInput.readBit_bit hr).1) h, List.foldl_const, List.length_take_of_le h, add_right_iterate,
    nsmul_one]
  rfl

/-- Settles O16: each register by what one bit does to it (`readBit_bit`). -/
theorem readingBitsAdvancesCursorAndCrcs : Obligations.ReadingBitsAdvancesCursorAndCrcs := by
  intro p n h
  refine ⟨BitInput.advanceBy_bits h, BitInput.advanceBy_bitPos h,
    BitInput.advanceBy_foldl (f := BitInput.crc16) (fun p v q hr => ?_) h,
    BitInput.advanceBy_foldl (f := BitInput.crc8) (fun p v q hr => ?_) h, BitInput.advanceBy_ended p n⟩
  · obtain ⟨-, hcrc16, -⟩ := BitInput.readBit_bit hr
    exact hcrc16
  · obtain ⟨-, -, hcrc8, -⟩ := BitInput.readBit_bit hr
    exact hcrc8

/-- Settles O18: the field is read by `run_getbStart`. -/
theorem getbReadsUnsignedField : Obligations.GetbReadsUnsignedField := by
  intro s n ⟨hlegal, htask, hpace⟩ h1 h32 hbits
  have hissue : exec (.getb n) s = s.run (.getbStart false n) := exec_of_legal htask hlegal
  rw [hissue, run_getbStart false hpace h1 h32 hbits]
  simp only [getbResult, Bool.false_eq_true, if_false, State.complete, htask]

end Sys2Proof.Machine
end

section
/-! EMIT with every sample in range (R134, R136). -/

namespace Sys2Proof.Machine

/-- An undisturbed command that comes to its last sequencer step completes. -/
theorem exec_completes_of_reaches {i : Instr} {s u v : State} {t : Task} {bound : Nat} (ht : s.task = none)
    (hpace : s.pace = []) (hl : legalityOf i s.mode = .ok) (hbound : bound < Config.maxBurst)
    (h : Reaches bound (startOf i) s t u) (hdone : advance t u = .done v) : exec i s = .next v.complete := by
  obtain ⟨n, hn, hdrive⟩ := h
  obtain ⟨m, hm⟩ : ∃ m, Config.maxBurst = n + (m + 1) := ⟨Config.maxBurst - n - 1, by omega⟩
  rw [exec_of_legal ht hl, State.run_undisturbed hpace, hm, hdrive, drive_done hdone]

theorem State.SameScratch.refl (s : State) : s.SameScratch s := ⟨rfl, fun _ _ => rfl⟩

theorem State.SameScratch.outWrite {s u : State} (h : s.SameScratch u) (ch i : Nat) (v : Word) :
    s.SameScratch (u.outWrite ch i v) := ⟨h.frame, h.entries⟩

theorem State.SameScratch.outFrom {s u : State} (h : s.SameScratch u) (ch i : Nat) (vs : List Sample) :
    s.SameScratch (u.outFrom ch i vs) := by
  induction vs generalizing u i with
  | nil => exact h
  | cons v vs ih => exact ih (h.outWrite _ _ _) (i + 1)

/-- A loop whose turn at index `j` emits the sample `j` of a run writes the whole run, when all its samples are in
range. -/
theorem reaches_emitLoop {s u : State} {T : Nat → Task} {ch i : Nat} {vs : List Sample} (hu : s.SameScratch u)
    (turn : ∀ j v u', vs[j]? = some v → s.SameScratch u' →
      advance (T (i + j)) u' = u'.emitSample ch (i + j) v (T (i + j + 1)))
    (hrange : ∀ v ∈ vs, s.frame.inRange v = true) :
    Reaches vs.length (T i) u (T (i + vs.length)) (u.outFrom ch i vs) := by
  induction vs generalizing u i with
  | nil => exact .refl _ _
  | cons v vs ih =>
    have hgo : advance (T i) u = .go (T (i + 1)) (u.outWrite ch (u.frame.outoff.toNat + i) (v.setWidth 32)) := by
      rw [← Nat.add_zero i, turn 0 v u rfl hu, State.emitSample, hu.frame, if_pos (hrange v List.mem_cons_self)]
    have hrest := ih (i := i + 1) (hu.outWrite ch (u.frame.outoff.toNat + i) (v.setWidth 32))
      (fun j v' u' hj hu' => by rw [Nat.add_assoc, Nat.add_comm 1 j]; exact turn (j + 1) v' u' hj hu')
      (fun v' hv' => hrange v' (List.mem_cons_of_mem v hv'))
    rw [List.length_cons, ← Nat.add_assoc, Nat.add_right_comm i, Nat.add_comm vs.length 1]
    exact (Reaches.go hgo).trans hrest

/-- EMIT has emitted the samples a buffer holds, all in range, as far as the block goes (R136). -/
theorem reaches_emit {s : State} {b : Buf} {ch : Nat} {xs : List Sample} (h7 : s.frame.chasgn.toNat ≤ 7)
    (hch : ch ≤ s.frame.chasgn.toNat) (hlen : xs.length ≤ s.frame.blockSize) (hholds : s.holds b xs)
    (hdepth : s.inDepth xs) :
    Reaches (1 + xs.length) (.emitStart b ch) s (.emit b ch xs.length) (s.outFrom ch 0 xs) := by
  have hstart : advance (.emitStart b ch) s = .go (.emit b ch 0) s := by
    simp only [advance, advanceEmitStart]
    rw [if_neg (by omega)]
  have hloop := reaches_emitLoop (T := .emit b ch) (ch := ch) (i := 0) (vs := xs) (.refl s) (fun j v u hj hu => ?_)
    (fun v hv => List.all_eq_true.1 hdepth v hv)
  · rw [Nat.zero_add] at hloop
    exact (Reaches.go hstart).trans hloop
  · obtain ⟨hlt, rfl⟩ := List.getElem?_eq_some_iff.1 hj
    simp only [Nat.zero_add, advance, advanceEmit, hu.frame, if_pos (hlt.trans_le hlen), hu.entries,
      State.readScratch_of_holds hholds hlt]

/-- Settles O34: EMIT emits every sample (`reaches_emit`) and then completes. -/
theorem emitWritesTheChannelWindow : Obligations.EmitWritesTheChannelWindow := by
  intro s b ch xs ⟨hmode, htask, hpace⟩ h7 hch hlen hholds hdepth
  have hbound : 1 + xs.length < Config.maxBurst := by
    have := s.frame.blockSize_lt
    unfold Config.maxBurst
    omega
  refine exec_completes_of_reaches (i := .emit b ch) htask hpace (by rw [hmode]; rfl) hbound
    (reaches_emit h7 hch hlen.le hholds hdepth) ?_
  have hframe := ((State.SameScratch.refl s).outFrom ch 0 xs).frame
  simp only [advance, advanceEmit, hframe, hlen, lt_irrefl, if_false]

end Sys2Proof.Machine
end

section
/-! The frame registers' lock (R58) and the scratch port (R59). -/

namespace Sys2Proof.Machine

/-- In BODY a write of a frame register is rejected, BUSY or not (R56, R58). -/
theorem perform_write_frame_body (r : Reg) {s : State} {off : BitVec 12} {v : Word} {f : FrameConfig}
    (hm : s.mode = .body) (hf : s.writeAccepted r v = s.writeFrame f) (h4 : aligned off = true)
    (hr : registerAt off = some r) (hcmd : r ≠ .cmd := by decide) : perform (.write off v) s = .next s.reject := by
  rw [perform_write h4 hr hcmd]
  obtain ⟨-, -, hreject⟩ | ⟨-, haccept⟩ := s.writeRegister_cases r v
  · rw [hreject]
  · rw [haccept, hf, State.writeFrame_eq, if_pos hm]

/-- Settles O50: each frame register at its offset, by its name. -/
theorem frameRegistersAreLockedInBody : Obligations.FrameRegistersAreLockedInBody := by
  intro s v
  refine ⟨fun hm off hoff => ?_, fun hm ht => ?_⟩
  · obtain rfl | rfl | rfl | rfl | rfl := hoff
    · exact perform_write_frame_body .blksize hm rfl rfl rfl
    · exact perform_write_frame_body .fmt hm rfl rfl rfl
    · exact perform_write_frame_body .outoff hm rfl rfl rfl
    · exact perform_write_frame_body .outlen hm rfl rfl rfl
    · exact perform_write_frame_body .outch hm rfl rfl rfl
  · rw [BitVec.setWidth_eq_extractLsb' (by decide : 17 ≤ 32), BitVec.setWidth_eq_extractLsb' (by decide : 4 ≤ 32)]
    exact ⟨perform_write_frame .blksize ht hm rfl rfl rfl, perform_write_frame .fmt ht hm rfl rfl rfl,
      perform_write_frame .outoff ht hm rfl rfl rfl, perform_write_frame .outlen ht hm rfl rfl rfl,
      perform_write_frame .outch ht hm rfl rfl rfl⟩

/-- SDATA's reads with BUSY = 0 have their own rules (R59). -/
theorem State.readRegister_sdata_idle {s : State} (ht : s.task = none) :
    s.readRegister .sdataLo = s.readSdataLo ∧ s.readRegister .sdataHi = .next s.readSdataHi := by
  simp [State.readRegister, State.busy, ht]

theorem State.readSdataLo_of_none {s : State} (h : s.readScratch s.saddr.sel s.saddr.idx.toNat = none) :
    s.readSdataLo = .fault (.unwrittenScratch s.saddr.sel s.saddr.idx.toNat) := by
  simp only [State.readSdataLo, h]

theorem State.commitScratch_eq (s : State) (v : Word) :
    s.commitScratch v = { s.writeScratch s.saddr.sel s.saddr.idx.toNat (s.whi ++ v) with
      saddr := { s.saddr with idx := s.saddr.idx + 1 } } := by
  simp only [State.commitScratch, State.nextScratchIndex, State.writeScratch_saddr]

/-- Settles O52: each access of the port by its rule. -/
theorem scratchPortProtocol : Obligations.ScratchPortProtocol := by
  intro s v ht
  obtain ⟨hlo, hhi⟩ := State.readRegister_sdata_idle ht
  have hread : perform (.read 0x03C) s = s.readSdataLo := (perform_read (r := .sdataLo) rfl rfl s).trans hlo
  refine ⟨perform_write_idle .sdataHi ht rfl rfl v, ?_, fun x hx => ?_, fun hx => ?_, ?_⟩
  · rw [perform_write_idle .sdataLo ht rfl rfl v, State.writeAccepted, State.commitScratch_eq]
  · rw [hread, State.readSdataLo_of_some hx]
  · rw [hread, State.readSdataLo_of_none hx]
  · exact (perform_read (r := .sdataHi) rfl rfl s).trans hhi

end Sys2Proof.Machine
end

section
/-! The opcode map as a decoder and the encoder as its inverse (R73 to R76). -/

namespace Sys2Proof

/-! ### The opcode map -/

/-- The word selects the row (R75). -/
abbrev OpcodeRow.Matches (row : OpcodeRow) (w : Word) : Prop := w &&& row.mask = row.pattern

/-- Any two rows ask different values of some bit that both look at. -/
theorem opcodeTable_disjoint :
    opcodeTable.Pairwise fun r r' => r.pattern &&& r'.mask ≠ r'.pattern &&& r.mask := by decide

theorem OpcodeRow.not_matches_of_disjoint {r r' : OpcodeRow} {w : Word}
    (h : r.pattern &&& r'.mask ≠ r'.pattern &&& r.mask) (hr' : r'.Matches w) : ¬r.Matches w := by
  intro hr
  apply h
  rw [← hr, ← hr', BitVec.and_assoc, BitVec.and_assoc, BitVec.and_comm r.mask]

/-- A word decodes to what its row says; the rows' order does not matter. -/
theorem decode_of_matches {row : OpcodeRow} {w : Word} (hrow : row ∈ opcodeTable) (h : row.Matches w) :
    decode w = .ok (row.build w) := by
  obtain ⟨before, after, htable⟩ := List.append_of_mem hrow
  have hpairwise := opcodeTable_disjoint
  rw [htable, List.pairwise_append] at hpairwise
  obtain ⟨-, -, hdisjoint⟩ := hpairwise
  have hfind : opcodeTable.find? (fun r => w &&& r.mask == r.pattern) = some row := by
    refine List.find?_eq_some_iff_append.2 ⟨beq_iff_eq.2 h, before, after, htable, fun r hr => ?_⟩
    have hno := OpcodeRow.not_matches_of_disjoint (hdisjoint r hr row List.mem_cons_self) h
    simpa using hno
  rw [decode, hfind]

/-- A word that no row matches is refused (R76). -/
theorem decode_of_no_match {w : Word} (h : ∀ row ∈ opcodeTable, ¬row.Matches w) : ∃ r, decode w = .error r := by
  have hfind : opcodeTable.find? (fun r => w &&& r.mask == r.pattern) = none :=
    List.find?_eq_none.2 fun row hrow => by simpa using h row hrow
  exact ⟨_, by rw [decode, hfind]⟩

theorem decode_eq_ok_iff {w : Word} {i : Instr} :
    decode w = .ok i ↔ ∃ row ∈ opcodeTable, row.Matches w ∧ row.build w = i := by
  constructor
  · intro h
    by_contra hnone
    have hno : ∀ row ∈ opcodeTable, ¬row.Matches w := fun row hrow hm =>
      hnone ⟨row, hrow, hm, by rw [decode_of_matches hrow hm] at h; exact Except.ok.inj h⟩
    obtain ⟨r, hr⟩ := decode_of_no_match hno
    rw [hr] at h
    cases h
  · rintro ⟨row, hrow, hm, rfl⟩
    exact decode_of_matches hrow hm

theorem decode_eq_error_iff {w : Word} : (∃ r, decode w = .error r) ↔ ∀ row ∈ opcodeTable, ¬row.Matches w := by
  refine ⟨fun ⟨r, hr⟩ row hrow hm => ?_, decode_of_no_match⟩
  rw [decode_of_matches hrow hm] at hr
  cases hr

/-! ### Encoding and decoding -/

/-- The row of a command: its word selects it, and the row reads the command's operands back. -/
theorem exists_row_of_wellFormed {i : Instr} (h : WellFormed i = true) :
    ∃ row ∈ opcodeTable, row.Matches (encode i) ∧ row.build (encode i) = i := by
  cases i with
  | nop => exact ⟨opcodeTable[0], List.getElem_mem _, rfl, rfl⟩
  | fstart => exact ⟨opcodeTable[1], List.getElem_mem _, rfl, rfl⟩
  | fcfg => exact ⟨opcodeTable[2], List.getElem_mem _, rfl, rfl⟩
  | getb n =>
    have hfield : ∀ m < 64, opcodeTable[3].Matches (encode (.getb m)) ∧ fieldN (encode (.getb m)) = m := by decide
    obtain ⟨hm, hn⟩ := hfield n (of_decide_eq_true h)
    exact ⟨opcodeTable[3], List.getElem_mem _, hm, congrArg Instr.getb hn⟩
  | getbs n =>
    have hfield : ∀ m < 64, opcodeTable[4].Matches (encode (.getbs m)) ∧ fieldN (encode (.getbs m)) = m := by decide
    obtain ⟨hm, hn⟩ := hfield n (of_decide_eq_true h)
    exact ⟨opcodeTable[4], List.getElem_mem _, hm, congrArg Instr.getbs hn⟩
  | resid b => exact ⟨opcodeTable[5], List.getElem_mem _, by cases b <;> rfl, by cases b <;> rfl⟩
  | recon b => exact ⟨opcodeTable[6], List.getElem_mem _, by cases b <;> rfl, by cases b <;> rfl⟩
  | wshl b k =>
    have hfield : ∀ m < 64, opcodeTable[7].Matches (encode (.wshl b m)) ∧ fieldN (encode (.wshl b m)) = m ∧
        fieldB (encode (.wshl b m)) = b := by cases b <;> decide
    obtain ⟨hm, hn, hb⟩ := hfield k (of_decide_eq_true h)
    exact ⟨opcodeTable[7], List.getElem_mem _, hm, congrArg₂ Instr.wshl hb hn⟩
  | emit b ch =>
    have hfield : ∀ m < 8, opcodeTable[8].Matches (encode (.emit b m)) ∧ fieldCh (encode (.emit b m)) = m ∧
        fieldB (encode (.emit b m)) = b := by cases b <;> decide
    obtain ⟨hm, hc, hb⟩ := hfield ch (of_decide_eq_true h)
    exact ⟨opcodeTable[8], List.getElem_mem _, hm, congrArg₂ Instr.emit hb hc⟩
  | decor => exact ⟨opcodeTable[9], List.getElem_mem _, rfl, rfl⟩
  | fend => exact ⟨opcodeTable[10], List.getElem_mem _, rfl, rfl⟩

/-- Settles O1: a command's word selects the command's row, and a word selects one row only (`decode_of_matches`). -/
theorem decodeEncodeRoundTrip : Obligations.DecodeEncodeRoundTrip :=
  fun _ h => decode_eq_ok_iff.2 (exists_row_of_wellFormed h)

theorem fieldN_lt (w : Word) : fieldN w < 64 := BitVec.isLt _

theorem fieldCh_lt (w : Word) : fieldCh w < 8 := BitVec.isLt _

/-- A field read out of a word and put back in its place is the word masked to the field. -/
theorem extract_shiftLeft_eq_and (w : Word) (lo len : Nat) :
    BitVec.ofNat 32 (w.extractLsb' lo len).toNat <<< lo = w &&& (BitVec.allOnes len).setWidth 32 <<< lo := by
  rw [BitVec.ofNat_toNat]
  apply BitVec.eq_of_getLsbD_eq
  intro j hj
  by_cases hlo : j < lo
  · simp [hlo]
  · have hback : lo + (j - lo) = j := by omega
    simp [hlo, hj, hback]
    grind

theorem fieldN_in_place (w : Word) : BitVec.ofNat 32 (fieldN w) <<< 8 = w &&& 0x3F00 := extract_shiftLeft_eq_and w 8 6

theorem fieldCh_in_place (w : Word) : BitVec.ofNat 32 (fieldCh w) <<< 4 = w &&& 0x70 := extract_shiftLeft_eq_and w 4 3

theorem fieldB_in_place (w : Word) : (fieldB w).bit = w &&& 1 := by
  have h : w &&& 1 = if w.getLsbD 0 = true then 1 else 0 := BitVec.and_twoPow w 0
  rw [h, fieldB]
  split <;> rfl

/-- A word that matches a row is the row's pattern with the operand bits that the row's mask leaves open. -/
theorem OpcodeRow.Matches.word_eq {row : OpcodeRow} {w : Word} (h : row.Matches w) :
    row.pattern ||| (w &&& ~~~row.mask) = w := by
  rw [← h, ← BitVec.and_or_distrib_left, BitVec.or_not_self, BitVec.and_allOnes]

/-- The operands a row reads fit their fields. -/
theorem wellFormed_build {row : OpcodeRow} (hrow : row ∈ opcodeTable) (w : Word) :
    WellFormed (row.build w) = true := by
  simp only [opcodeTable, List.mem_cons, List.not_mem_nil, or_false] at hrow
  obtain rfl | rfl | rfl | rfl | rfl | rfl | rfl | rfl | rfl | rfl | rfl := hrow <;>
    simp [WellFormed, fieldN_lt, fieldCh_lt]

/-- The command a row reads from a word that selects it has that word: the row's pattern is the opcode (and field S),
and the operand fields in place are the bits the mask leaves open. -/
theorem encode_build {row : OpcodeRow} {w : Word} (hrow : row ∈ opcodeTable) (h : row.Matches w) :
    encode (row.build w) = w := by
  have hw := h.word_eq
  simp only [opcodeTable, List.mem_cons, List.not_mem_nil, or_false] at hrow
  obtain rfl | rfl | rfl | rfl | rfl | rfl | rfl | rfl | rfl | rfl | rfl := hrow <;>
    simpa [encode, opcodeOf, operandBits, fieldN_in_place, fieldCh_in_place, fieldB_in_place,
      ← BitVec.and_or_distrib_left, ← BitVec.or_assoc] using hw

/-- Settles O2: the word selects a row, and the row's command is `encode_build`'s. -/
theorem decodedWordIsItsEncoding : Obligations.DecodedWordIsItsEncoding := by
  intro w i h
  obtain ⟨row, hrow, hm, rfl⟩ := decode_eq_ok_iff.1 h
  exact ⟨wellFormed_build hrow w, encode_build hrow hm⟩

/-- GETB and GETBS differ in bit 16 (field S), so the two rows together leave that bit open too (R112). -/
theorem getb_rows_eq (w : Word) :
    (w &&& 0xFFFFC0FF = 0x30000000 ∨ w &&& 0xFFFFC0FF = 0x30010000) ↔ w &&& 0xFFFEC0FF = 0x30000000 := by
  have hsplit : w &&& 0xFFFFC0FF = (w &&& 0xFFFEC0FF) ||| (w &&& 0x10000) :=
    BitVec.and_or_distrib_left (x := w) (y := 0xFFFEC0FF) (z := 0x10000)
  have hjoin : w &&& 0xFFFEC0FF = (w &&& 0xFFFFC0FF) &&& 0xFFFEC0FF :=
    (BitVec.and_assoc w 0xFFFFC0FF 0xFFFEC0FF).symm
  have hbit : w &&& 0x10000 = if w.getLsbD 16 = true then 0x10000 else 0 := BitVec.and_twoPow w 16
  constructor
  · rintro (h | h) <;> rw [hjoin, h] <;> rfl
  · intro h
    rw [hsplit, h, hbit]
    split
    · exact .inr rfl
    · exact .inl rfl

/-- Settles O3: a word is refused exactly when it selects no row (`decode_eq_error_iff`); the rows are R75's. -/
theorem illegalWordsAreThoseOfTheOpcodeMap : Obligations.IllegalWordsAreThoseOfTheOpcodeMap := by
  intro w
  have hall : w &&& 0xFFFFFFFF = w := BitVec.and_allOnes
  rw [decode_eq_error_iff, ← getb_rows_eq]
  simp only [opcodeTable, OpcodeRow.Matches, List.forall_mem_cons, hall]
  tauto

/-- Settles O4: each word is decoded. -/
theorem listedWordsDecodeAsListed : Obligations.ListedWordsDecodeAsListed := by
  unfold Obligations.ListedWordsDecodeAsListed
  decide

end Sys2Proof
end

section
/-! Errors found at the issue of a command (R76, R77, R93), and GETB's argument (R112). -/

namespace Sys2Proof.Machine

/-- An undisturbed command that is about to raise an error of the issue checks does so, with no other effect. -/
theorem run_raising {s : State} (hpace : s.pace = []) (op : BitVec 4) (e : RdbError) :
    s.run (.raising op e) = .next (s.errorEntry op e) := by
  rw [State.run_undisturbed hpace]
  exact drive_raise rfl

/-- An illegal word written where R77 lets NOP and GETB execute (R76, R93). -/
theorem State.issueIllegal_accepting {s : State} (h : s.accepting) (op : BitVec 4) :
    s.issueIllegal op = .next (s.errorEntry op .argumentError) := by
  obtain ⟨hlegal, htask, hpace⟩ := h
  rw [State.issueIllegal, State.issue_ok htask hlegal, run_raising hpace]

/-- Settles O7: the event reaches an idle block, which issues the illegal word. -/
theorem illegalWordRaisesArgumentError : Obligations.IllegalWordRaisesArgumentError := by
  intro s w r rest ⟨hlegal, htask, hpace⟩ hevents hdecode
  rw [step_idle hevents htask, perform_cmd, issueWord, hdecode]
  exact State.issueIllegal_accepting (s := { s with events := rest }) ⟨hlegal, htask, hpace⟩ (fieldOp w)

/-- Settles O9: R77's table gives a violation in each of these states. -/
theorem commandInWrongStateRaisesInvariantViolation : Obligations.CommandInWrongStateRaisesInvariantViolation := by
  intro i s htask hpace hwrong
  have hviolation : legalityOf i s.mode = .violation := by
    obtain ⟨rfl, hmode⟩ | ⟨hbody, hmode⟩ := hwrong
    · obtain hmode | hmode := hmode <;> rw [hmode] <;> rfl
    · have hrow : legalityOf i = legalInBody := by
        cases i with
        | nop | fstart | fcfg | getb | getbs => cases hbody
        | resid | recon | wshl | emit | decor | fend => rfl
      rw [hrow]
      obtain hmode | hmode := hmode <;> rw [hmode] <;> rfl
  rw [exec_eq_issue, State.issue_violation htask hviolation, run_raising hpace]

/-! ### Commands that end in an error -/

/-- Running a command does not leave it: its OP is that of every point it reaches. -/
theorem Reaches.op {bound : Nat} {t t' : Task} {s s' : State} (h : Reaches bound t s t' s') : t'.op = t.op := by
  obtain ⟨n, -, hdrive⟩ := h
  have hpause : drive n t s = .next { s' with task := some t' } := hdrive 0
  refine drive_next_of_post (P := fun x _ => x.op = t.op) (Q := fun u => ∀ x, u.task = some x → x.op = t.op)
    (fun x u hx => ?_) (fun x u hx y hy => ?_) rfl hpause t' rfl
  · exact (advance_keepsCommand x u).mono (fun x' _ ⟨⟨hop, _⟩, _⟩ => hop.trans hx) (fun _ _ => nofun)
      (fun _ _ _ => nofun)
  · exact Option.some.inj hy ▸ hx

/-- An undisturbed command that comes to a sequencer step that raises an error enters the error. -/
theorem exec_raises_of_reaches {i : Instr} {s u v : State} {t : Task} {bound : Nat} {e : RdbError} (ht : s.task = none)
    (hpace : s.pace = []) (hl : legalityOf i s.mode = .ok) (hbound : bound < Config.maxBurst)
    (h : Reaches bound (startOf i) s t u) (hraise : advance t u = .raise e v) :
    exec i s = .next (v.errorEntry (opcodeOf i) e) := by
  have hop := h.op
  obtain ⟨n, hn, hdrive⟩ := h
  obtain ⟨m, hm⟩ : ∃ m, Config.maxBurst = n + (m + 1) := ⟨Config.maxBurst - n - 1, by omega⟩
  rw [exec_of_legal ht hl, State.run_undisturbed hpace, hm, hdrive, drive_raise hraise, hop, startOf_op]

theorem maxBurst_pos : 0 < Config.maxBurst := by decide

/-- Settles O17: both cases end at GETB's first step. -/
theorem getbOfZeroBitsAndOfMoreThan32Bits : Obligations.GetbOfZeroBitsAndOfMoreThan32Bits := by
  intro s ⟨hlegal, htask, hpace⟩
  have hzero : ∀ signed, advance (.getbStart signed 0) s = .done { s with rdata := 0 } := fun _ => rfl
  have hcomplete : State.complete { s with rdata := 0 } =
      { s with rdata := 0, flags := { s.flags with done := true } } := by rw [State.complete, htask]
  have hwide : ∀ signed n, 32 < n → advance (.getbStart signed n) s = .raise .argumentError s :=
    fun _ _ hn => if_pos hn
  rw [← hcomplete]
  refine ⟨?_, ?_, fun n hn => ⟨?_, ?_⟩⟩
  · exact exec_completes_of_reaches htask hpace hlegal maxBurst_pos (.refl _ s) (hzero false)
  · exact exec_completes_of_reaches htask hpace hlegal maxBurst_pos (.refl _ s) (hzero true)
  · exact exec_raises_of_reaches htask hpace hlegal maxBurst_pos (.refl _ s) (hwide false n hn)
  · exact exec_raises_of_reaches htask hpace hlegal maxBurst_pos (.refl _ s) (hwide true n hn)

end Sys2Proof.Machine
end

section
/-! The end of stream inside a command (R110, R111, R122). -/

namespace Sys2Proof.Machine

/-- R110 is GETB's alone: for every other command an end of stream is UnexpectedEndOfStream (R111). -/
theorem State.endOfStream_of_op (s : State) {use : Purpose} (h : use.op ≠ 0x3) (left : Nat) :
    s.endOfStream left use = .raise (.unexpectedEndOfStream use.endOfStreamIndex) s := by
  cases use with
  | getb => exact absurd rfl h
  | _ => rfl

/-- The end of stream at a ReadBit of RESID or FEND (R111, R122). -/
theorem advance_endOfStream {t : Task} {s : State} (hbit : t.needsBit = true) (hop : t.op ≠ 0x3)
    (hread : s.input.readBit = .endOfStream) :
    advance t s = .raise (.unexpectedEndOfStream t.bitIndex) s := by
  obtain ⟨left, acc, use, rfl⟩ | ⟨here, k, q, rfl⟩ := t.needsBit_iff.1 hbit
  · simp only [advance, advanceReading, hread]
    exact s.endOfStream_of_op hop _
  · simp only [advance, advanceUnary, hread, Task.bitIndex]

/-- An undisturbed RESID or FEND that runs out of bits at `u`, with the source at its end, raises UnexpectedEndOfStream
there. -/
theorem exec_raises_of_runsOut {i : Instr} {s u : State} {bound : Nat} {idx : Option Nat} (ht : s.task = none)
    (hpace : s.pace = []) (hl : legalityOf i s.mode = .ok) (hop : opcodeOf i ≠ 0x3) (hbound : bound < Config.maxBurst)
    (h : RunsOut bound (startOf i) s idx u) (hended : u.input.source.ended = true) :
    exec i s = .next (u.errorEntry (opcodeOf i) (.unexpectedEndOfStream idx)) := by
  obtain ⟨t, hreach, hbit, rfl, hbits⟩ := h
  have hread : u.input.readBit = .endOfStream := by rw [BitInput.readBit_of_no_bits hbits, hended]; rfl
  rw [← startOf_op, ← hreach.op] at hop
  exact exec_raises_of_reaches ht hpace hl hbound hreach (advance_endOfStream hbit hop hread)

/-- An undisturbed GETB or GETBS whose field is cut short, not at a frame boundary before its first bit (R110, R111). -/
theorem exec_getb_endOfStream {i : Instr} {s : State} {n : Nat} {signed : Bool}
    (hstart : startOf i = .getbStart signed n) (ht : s.task = none) (hpace : s.pace = []) (hl : legalityOf i s.mode = .ok)
    (h32 : n ≤ 32) (hshort : s.input.bits.length < n) (hended : s.input.source.ended = true)
    (hinside : s.input.bits = [] → s.atFrameBoundary = false) :
    exec i s = .next
      ((s.skipBits s.input.bits.length).errorEntry (opcodeOf i) (.unexpectedEndOfStream none)) := by
  obtain ⟨r, rfl⟩ : ∃ r, n = s.input.bits.length + (r + 1) := ⟨n - s.input.bits.length - 1, by omega⟩
  have hgo : advance (startOf i) s = .go (.reading (s.input.bits.length + (r + 1)) 0
      (.getb signed (s.input.bits.length + (r + 1)))) s := by
    simp only [hstart, advance, advanceGetbStart]
    rw [if_neg (by omega), if_neg (by omega)]
  have hreach := (Reaches.go hgo).trans (reaches_reading (r + 1) 0 _ le_rfl)
  have hread : (s.skipBits s.input.bits.length).input.readBit = .endOfStream := by
    rw [BitInput.readBit_of_no_bits (by simp [State.skipBits_bits le_rfl]), State.skipBits, BitInput.advanceBy_ended,
      hended]
    rfl
  refine exec_raises_of_reaches ht hpace hl (by unfold Config.maxBurst; omega) hreach ?_
  simp only [advance, advanceReading, hread, State.endOfStream]
  refine if_neg fun ⟨hfirst, hboundary⟩ => ?_
  have hbits : s.input.bits = [] := List.length_eq_zero_iff.1 (by omega)
  simp [hbits, hinside hbits] at hboundary

/-- Settles O21: GETB by `exec_getb_endOfStream`, RESID and FEND by the ReadBit at which they run out of bits. -/
theorem cutShortIsUnexpectedEndOfStream : Obligations.CutShortIsUnexpectedEndOfStream := by
  have hburst : 32 < Config.maxBurst ∧ 2 ^ 63 < Config.maxBurst := by unfold Config.maxBurst; omega
  refine ⟨fun s n i ⟨hl, ht, hpace⟩ h32 hi hshort hended hinside => ?_,
    fun s u b idx ⟨hmode, ht, hpace⟩ hlegal hshift hout hended => ?_,
    fun s ⟨hmode, ht, hpace⟩ hout hended => ?_⟩
  · have hboundary : s.input.bits = [] → s.atFrameBoundary = false := fun hbits => by
      obtain hmode | ⟨hmode, hpos⟩ := hinside.resolve_left (not_not_intro hbits)
      · rw [State.atFrameBoundary, hmode]
      · simp [State.atFrameBoundary, hmode, hpos]
    obtain rfl | rfl := hi
    · exact exec_getb_endOfStream (i := .getb n) rfl ht hpace hl h32 hshort hended hboundary
    · exact exec_getb_endOfStream (i := .getbs n) rfl ht hpace hl h32 hshort hended hboundary
  · refine exec_raises_of_runsOut (i := .resid b) ht hpace (by rw [hmode]; rfl) (by simp [opcodeOf]) hburst.2
      (runsOut_resid hlegal hshift hout) ?_
    rw [hout.input, BitInput.advanceBy_ended, hended]
  · exact exec_raises_of_runsOut (i := .fend) ht hpace (by rw [hmode]; rfl) (by decide) hburst.1 (runsOut_fend hout)
      ((s.input.advanceBy_ended _).trans hended)

end Sys2Proof.Machine
end

section
/-! RESID over a whole residual section (R83, R113). -/

namespace Sys2Proof.Machine

/-- The residuals of a whole section: one for each index from ORDER to N − 1 (R118). -/
theorem sectionFits_length {wide : Bool} {po n ord : Nat} {parts : List PartitionCode}
    (h : sectionFits wide po n ord parts = true) : (parts.flatMap PartitionCode.samples).length = n - ord := by
  simp only [sectionFits, Bool.and_eq_true, decide_eq_true_eq] at h
  obtain ⟨⟨⟨⟨-, hdiv⟩, horder⟩, hlen⟩, hfit⟩ := h
  have hn : (2 ^ po - 1) * (n / 2 ^ po) + n / 2 ^ po = n := by
    rw [← Nat.succ_mul, Nat.succ_eq_add_one, Nat.sub_add_cancel (Nat.two_pow_pos po)]
    exact Nat.mul_div_cancel' (Nat.dvd_of_mod_eq_zero hdiv)
  have hne : parts.isEmpty = false :=
    List.isEmpty_eq_false_iff.2 (List.ne_nil_of_length_pos (hlen ▸ Nat.two_pow_pos po))
  rw [partitionsFit_length hfit, hne, hlen, if_neg Bool.false_ne_true]
  omega

/-- A whole section, to the head of the loop over partitions after the last (R83, R113). -/
theorem decodes_wholeSection {f : FrameConfig} {c : PredictorConfig} {b : Buf} {wide : Bool} {po : Nat}
    {parts : List PartitionCode} (hlegal : c.legal = true) (hshift : c.negativeShift = false)
    (hfits : sectionFits wide po f.blockSize c.order.toNat parts = true) :
    Decodes f c (9 + (21 * parts.length + (parts.flatMap PartitionCode.samples).length * residualSteps)) (.residStart b)
      (sectionBits wide po parts) b c.order.toNat (parts.flatMap PartitionCode.samples)
      (.partition
        { buf := b
          wide := wide
          order := po
          part := 2 ^ po
          idx := c.order.toNat + (parts.flatMap PartitionCode.samples).length }) := by
  simp only [sectionFits, Bool.and_eq_true, decide_eq_true_eq] at hfits
  obtain ⟨⟨⟨⟨hpo, hdiv⟩, horder⟩, hlen⟩, hfit⟩ := hfits
  have hparts := decodes_partitions (f := f) (c := c)
    (here := { buf := b, wide := wide, order := po, part := 0, idx := c.order.toNat }) hfit
    (by simp only [ResidPos.stop]; omega) (by simp only; omega)
  have hall := (decodes_header (f := f) (c := c) (b := b) (wide := wide) hlegal hshift hpo hdiv horder).trans hparts
  simpa only [Nat.zero_add, List.nil_append, sectionBits, hlen] using hall

/-- Settles O25: RESID decodes the whole section (`decodes_wholeSection`), and no partition is left. -/
theorem residDecodesEverySection : Obligations.ResidDecodesEverySection := by
  intro s b wide po parts rest ⟨hmode, htask, hpace⟩ hlegal hshift hfits hbits
  have hbound : 9 + (21 * parts.length + (parts.flatMap PartitionCode.samples).length * residualSteps) <
      Config.maxBurst := by
    have hN := s.frame.blockSize_lt
    have hsamples := sectionFits_length hfits
    simp only [sectionFits, Bool.and_eq_true, decide_eq_true_eq] at hfits
    obtain ⟨⟨⟨⟨hpo, -⟩, -⟩, hlen⟩, -⟩ := hfits
    have hpow : 2 ^ po ≤ 2 ^ 15 := Nat.pow_le_pow_right (by decide) hpo
    unfold Config.maxBurst residualSteps
    omega
  have hreach := decodes_wholeSection (b := b) hlegal hshift hfits s rest rfl rfl hbits
  rw [exec_completes_of_reaches (i := .resid b) htask hpace (by rw [hmode]; rfl) hbound hreach
    (if_neg (lt_irrefl _)), State.skipBits, State.writeFrom_input]

/-- Settles O26: the zigzag is `zigzag_eq_residualOf`; the range is that of v / 2. -/
theorem zigzagGivesTheSignedResidual : Obligations.ZigzagGivesTheSignedResidual := by
  intro v hv
  refine ⟨zigzag_eq_residualOf hv, ?_⟩
  unfold residualOf
  split <;> omega

end Sys2Proof.Machine
end

section
/-! NOP, FSTART and FCFG as whole commands, and the rejection of commands in ERROR and FATAL (R93 to R99, R154). -/

namespace Sys2Proof.Machine

/-! ### Commands of one sequencer step -/

/-- An undisturbed command that ends with its first sequencer step at the state `v` sets DONE there (R94). -/
theorem exec_completes_at_once {i : Instr} {s v : State} (ht : s.task = none) (hpace : s.pace = [])
    (hl : legalityOf i s.mode = .ok) (hdone : advance (startOf i) s = .done v) (hv : v.task = none) :
    exec i s = .next { v with flags := { v.flags with done := true } } := by
  rw [exec_completes_of_reaches ht hpace hl maxBurst_pos (.refl _ s) hdone, State.complete, hv]

/-- Settles O12: NOP's one sequencer step leaves the state as it is. -/
theorem nopCompletes : Obligations.NopCompletes := by
  intro s ⟨hlegal, htask, hpace⟩
  exact exec_completes_at_once (i := .nop) htask hpace hlegal rfl htask

/-- R77 lets FSTART execute outside FATAL. -/
theorem legalFstart_of_ne_fatal {m : BlockState} (h : m ≠ .fatal) : legalFstart m = .ok := by
  cases m with
  | fatal => exact absurd rfl h
  | _ => rfl

/-- Settles O13: FSTART's one sequencer step opens the frame. -/
theorem fstartOpensFrame : Obligations.FstartOpensFrame := by
  intro s hmode htask hpace
  exact exec_completes_at_once (i := .fstart) (v := s.openFrame) htask hpace (legalFstart_of_ne_fatal hmode) rfl htask

/-! ### FCFG's checks in order (R98, R152) -/

/-- The first check: the block size. -/
theorem FrameConfig.firstError_of_blksize {f : FrameConfig} (h : ¬(1 ≤ f.blksize.toNat ∧ f.blksize.toNat ≤ 65536)) :
    f.firstError = some .argumentError := by
  have hfail : f.blockSize < 1 ∨ Config.maxBlock < f.blockSize := by
    unfold FrameConfig.blockSize Config.maxBlock
    omega
  rw [FrameConfig.firstError, if_pos hfail]

/-- The second check: the channel assignment. -/
theorem FrameConfig.firstError_of_chasgn {f : FrameConfig} (h1 : 1 ≤ f.blksize.toNat) (hmax : f.blksize.toNat ≤ 65536)
    (h : 11 ≤ f.chasgn.toNat) : f.firstError = some .reservedField := by
  have hpass : ¬(f.blockSize < 1 ∨ Config.maxBlock < f.blockSize) := by
    unfold FrameConfig.blockSize Config.maxBlock
    omega
  rw [FrameConfig.firstError, if_neg hpass, if_pos h]

/-- With a legal channel assignment every check that fails gives ArgumentError, so their order does not matter. -/
theorem FrameConfig.firstError_of_legal_chasgn {f : FrameConfig} (h : f.chasgn.toNat < 11) :
    f.firstError =
      if (f.blockSize < 1 ∨ Config.maxBlock < f.blockSize) ∨ (f.depth.toNat < 1 ∨ 32 < f.depth.toNat) ∨
          (f.outch.toNat < 1 ∨ 8 < f.outch.toNat ∨ f.outch.toNat < f.channels) ∨
          f.outlen.toNat < f.outoff.toNat + f.blockSize
      then some .argumentError
      else none := by
  rw [FrameConfig.firstError, if_neg (Nat.not_le.2 h)]
  simp only [ite_or]

/-- An undisturbed FCFG in HDR raises the error of the first check that fails. -/
theorem exec_fcfg_of_firstError {s : State} {e : RdbError} (h : s.ready .hdr) (he : s.frame.firstError = some e) :
    exec .fcfg s = .next (s.errorEntry 0x2 e) := by
  obtain ⟨hmode, htask, hpace⟩ := h
  refine exec_raises_of_reaches (i := .fcfg) htask hpace (by rw [hmode]; rfl) maxBurst_pos (.refl _ s) ?_
  rw [startOf, advance, advanceFcfg, he]

/-- Settles O14: no check fails, so FCFG's one sequencer step enters BODY. -/
theorem fcfgOpensBody : Obligations.FcfgOpensBody := by
  intro s ⟨hmode, htask, hpace⟩ hN1 hN hchasgn hD1 hD hout1 hout hchannels hwindow
  have hnone : s.frame.firstError = none := by
    rw [FrameConfig.firstError_of_legal_chasgn hchasgn, if_neg]
    unfold FrameConfig.blockSize FrameConfig.channels Config.maxBlock
    omega
  have hdone : advance (startOf .fcfg) s = .done { s with mode := .body } := by
    rw [startOf, advance, advanceFcfg, hnone]
  exact exec_completes_at_once htask hpace (by rw [hmode]; rfl) hdone htask

/-- Settles O15: each clause by the check it names. -/
theorem fcfgReportsFirstFailingCheck : Obligations.FcfgReportsFirstFailingCheck := by
  intro s hready
  refine ⟨fun hN => exec_fcfg_of_firstError hready (FrameConfig.firstError_of_blksize hN),
    fun h1 hmax hchasgn => exec_fcfg_of_firstError hready (FrameConfig.firstError_of_chasgn h1 hmax hchasgn),
    fun hchasgn hfail => exec_fcfg_of_firstError hready ?_⟩
  rw [FrameConfig.firstError_of_legal_chasgn hchasgn, if_pos]
  unfold FrameConfig.blockSize FrameConfig.channels Config.maxBlock
  omega

/-! ### Rejection in ERROR and FATAL (R154) -/

/-- R77's rejections: every command in FATAL, every command but FSTART in ERROR. -/
theorem legalityOf_rejected {i : Instr} {m : BlockState} (h : m = .fatal ∨ (m = .error ∧ i ≠ .fstart)) :
    legalityOf i m = .rejected := by
  obtain rfl | ⟨rfl, hi⟩ := h
  · cases i <;> rfl
  · cases i with
    | fstart => exact absurd rfl hi
    | _ => rfl

/-- FSTART has one word. -/
theorem decode_ne_fstart {w : Word} {i : Instr} (hdecode : decode w = .ok i) (hw : w ≠ 0x10000000) : i ≠ .fstart := by
  rintro rfl
  obtain ⟨-, hencode⟩ := decodedWordIsItsEncoding w .fstart hdecode
  exact hw hencode.symm

/-- A word that an error state rejects, whether it decodes or not. -/
theorem issueWord_rejected {s : State} {w : Word} (h : s.mode = .fatal ∨ (s.mode = .error ∧ w ≠ 0x10000000)) :
    issueWord w s = .next s.reject := by
  unfold issueWord
  split
  · next i hdecode =>
    rw [exec_eq_issue]
    exact State.issue_rejected (legalityOf_rejected (h.imp_right (.imp_right (decode_ne_fstart hdecode)))) _ _
  · have hlegal : legalWhileRunning s.mode = .rejected :=
      legalityOf_rejected (i := .nop) (h.imp_right (.imp_right fun _ => nofun))
    exact State.issue_rejected hlegal _ _

/-- Settles O8: the event reaches an idle block, which rejects the word. -/
theorem errorStatesRejectCommandWrites : Obligations.ErrorStatesRejectCommandWrites := by
  intro s w rest htask hevents hmode
  rw [step_idle hevents htask, perform_cmd]
  exact issueWord_rejected (s := { s with events := rest }) hmode

end Sys2Proof.Machine
end

section
/-! GETB at a frame boundary where the source has ended (R110). -/

namespace Sys2Proof.Machine

/-- GETB's and GETBS's row of R77 allows them in IDLE and in HDR. -/
theorem legalWhileRunning_of_boundary {s : State} (h : s.atFrameBoundary = true) : legalWhileRunning s.mode = .ok := by
  obtain hm | hm := s.mode_of_atFrameBoundary h <;> rw [hm] <;> rfl

/-- An undisturbed GETB or GETBS of 1 to 32 bits that meets the end of stream at its first bit, at a frame boundary. -/
theorem exec_getb_noMoreFrames {i : Instr} {s : State} {n : Nat} {signed : Bool} (hstart : startOf i = .getbStart signed n)
    (ht : s.task = none) (hpace : s.pace = []) (hl : legalityOf i s.mode = .ok) (h1 : 1 ≤ n) (h32 : n ≤ 32)
    (hboundary : s.atFrameBoundary = true) (hread : s.input.readBit = .endOfStream) :
    exec i s = .next s.noMoreFrames.complete := by
  obtain ⟨r, rfl⟩ : ∃ r, n = r + 1 := ⟨n - 1, by omega⟩
  have hgo : advance (startOf i) s = .go (.reading (r + 1) 0 (.getb signed (r + 1))) s := by
    simp only [hstart, advance, advanceGetbStart]
    rw [if_neg (by omega), if_neg (by omega)]
  have hdone : advance (.reading (r + 1) 0 (.getb signed (r + 1))) s = .done s.noMoreFrames := by
    simp [advance, advanceReading, hread, State.endOfStream, hboundary]
  exact exec_completes_of_reaches ht hpace hl (by unfold Config.maxBurst; omega) (.go hgo) hdone

/-- Settles O20: the first ReadBit meets the end of stream at a frame boundary. -/
theorem getbAtFrameBoundarySignalsNoMoreFrames : Obligations.GetbAtFrameBoundarySignalsNoMoreFrames := by
  intro s n i ht hpace h1 h32 hi hmode hbits hended
  have hboundary : s.atFrameBoundary = true := by
    obtain hm | ⟨hm, hpos⟩ := hmode
    · rw [State.atFrameBoundary, hm]
    · simp [State.atFrameBoundary, hm, hpos]
  have hl := legalWhileRunning_of_boundary hboundary
  have hread : s.input.readBit = .endOfStream := by rw [BitInput.readBit_of_no_bits hbits, hended]; rfl
  have hresult : s.noMoreFrames.complete =
      { s with mode := .idle, flags := { s.flags with eos := true, done := true } } := by
    simp only [State.noMoreFrames, State.complete, ht]
  rw [← hresult]
  obtain rfl | rfl := hi
  · exact exec_getb_noMoreFrames (i := .getb n) rfl ht hpace hl h1 h32 hboundary hread
  · exact exec_getb_noMoreFrames (i := .getbs n) rfl ht hpace hl h1 h32 hboundary hread

end Sys2Proof.Machine
end

section
/-! How many sequencer steps a command takes (R179): a bound at every point of a command, below the 2^64 steps a machine
step has room for when no pause is scheduled (log entry 2). -/

namespace Sys2Proof.Machine

/-! ### A place in a residual section -/

/-- The place after the next residual (R119, R120). -/
abbrev ResidPos.next (here : ResidPos) : ResidPos := { here with idx := here.idx + 1 }

/-- More sequencer steps than RESID takes from `here` on: each residual takes fewer than `residualSteps`, and a partition
fewer than 16 beside its residuals. -/
def ResidPos.steps (here : ResidPos) (f : FrameConfig) : Nat :=
  residualSteps * (f.blockSize - here.idx) + 16 * (2 ^ here.order - here.part)

/-- At the head of a partition's loop, with its parameter read, RESID has at most `n` sequencer steps to take: of the 16
that `steps` counts for this partition only the one that leaves the loop is still to come. -/
structure ResidPos.StopsIn (here : ResidPos) (f : FrameConfig) (n : Nat) : Prop where
  inside : here.part < 2 ^ here.order
  idx_le : here.idx ≤ here.stop f
  steps_lt : here.steps f < n + 15

section
variable {here : ResidPos} {f : FrameConfig} {m n : Nat}

theorem ResidPos.StopsIn.mono (h : here.StopsIn f m) (hmn : m ≤ n) : here.StopsIn f n :=
  { h with steps_lt := h.steps_lt.trans_le (by omega) }

theorem ResidPos.StopsIn.pos (h : here.StopsIn f n) : 0 < n := by
  obtain ⟨hpart, -, hsteps⟩ := h
  unfold ResidPos.steps at hsteps
  omega

/-- No partition ends above N (R116). -/
theorem ResidPos.stop_le (h : here.part < 2 ^ here.order) : here.stop f ≤ f.blockSize :=
  (Nat.mul_le_mul_right _ h).trans (Nat.mul_div_le _ _)

/-- A residual takes `residualSteps` of the steps left. -/
theorem ResidPos.StopsIn.next (h : here.StopsIn f n) (hidx : here.idx < here.stop f) :
    here.next.StopsIn f (n - residualSteps) := by
  obtain ⟨hpart, -, hsteps⟩ := h
  have hN := hidx.trans_le (ResidPos.stop_le hpart)
  refine ⟨hpart, hidx, ?_⟩
  simp only [ResidPos.steps, residualSteps] at hsteps ⊢
  omega

/-- Behind a partition's last residual the next partition has one partition less before it (R113). -/
theorem ResidPos.StopsIn.nextPartition {s : State} (h : here.StopsIn s.frame (n + 1)) (hidx : ¬here.idx < here.stop s.frame) :
    (s.nextPartition here).idx ≤ (s.nextPartition here).stop s.frame ∧ (s.nextPartition here).steps s.frame < n := by
  obtain ⟨hpart, hle, hsteps⟩ := h
  have hend : s.partitionEnd here = here.idx := (here.partitionEnd_eq rfl).trans (by omega)
  rw [State.nextPartition, hend]
  refine ⟨hle.trans (Nat.mul_le_mul_right _ (Nat.le_succ _)), ?_⟩
  simp only [ResidPos.steps] at hsteps ⊢
  omega

end

/-! ### A point of a command -/

/-- The greatest value a `ReadBits` can come to with `left` bits to read behind the value `acc` (R104). -/
def greatestValue (left acc : Nat) : Nat := (acc + 1) * 2 ^ left - 1

@[simp] theorem greatestValue_zero (acc : Nat) : greatestValue 0 acc = acc := by simp [greatestValue]

theorem greatestValue_bit_le (left acc : Nat) (b : Bool) :
    greatestValue left (2 * acc + b.toNat) ≤ greatestValue (left + 1) acc := by
  have hb : 2 * acc + b.toNat + 1 ≤ (acc + 1) * 2 := by have := b.toNat_le; omega
  calc greatestValue left (2 * acc + b.toNat) ≤ (acc + 1) * 2 * 2 ^ left - 1 :=
        Nat.sub_le_sub_right (Nat.mul_le_mul_right _ hb) 1
    _ = greatestValue (left + 1) acc := by rw [greatestValue, Nat.pow_succ', Nat.mul_assoc]

/-- More sequencer steps than the partitions of a section take: a block of N residuals and at most 2^15 partitions. -/
def FrameConfig.sectionSteps (f : FrameConfig) : Nat := residualSteps * f.blockSize + 16 * 2 ^ 15

/-- A `ReadBits` for this purpose that comes to a value of at most `v` leaves the command at most `n` sequencer steps,
the one that uses the value included. -/
def Purpose.StopsIn (f : FrameConfig) (v n : Nat) : Purpose → Prop
  | .getb _ _ => 0 < n
  | .method _ => f.sectionSteps + 6 < n
  | .partitionOrder _ _ => v ≤ 15 ∧ f.sectionSteps + 1 < n
  | .parameter here => v ≤ 31 ∧ here.StopsIn f (n - 7)
  | .rawWidth here => v ≤ 31 ∧ here.StopsIn f (n - 1)
  | .rawResidual here w => w ≤ 31 ∧ here.next.StopsIn f (n - 1)
  | .remainder here k _ => k ≤ 31 ∧ here.next.StopsIn f (n - 1)
  | .padding => 17 < n
  | .footerCrc _ => 0 < n

/-- At this point a command has at most `n` sequencer steps to take, whatever bits it reads. -/
def Task.StopsIn (f : FrameConfig) (n : Nat) : Task → Prop
  | .nop | .fstart | .fcfg | .raising _ _ => 0 < n
  | .getbStart _ _ => 33 < n
  | .reading left acc use => use.StopsIn f (greatestValue left acc) (n - left)
  | .residStart _ => f.sectionSteps + 9 < n
  | .partition here => here.idx ≤ here.stop f ∧ here.steps f < n
  | .escaped here w => w ≤ 31 ∧ here.StopsIn f n
  | .rice here k => k ≤ 31 ∧ here.StopsIn f n
  | .unary here k q => k ≤ 31 ∧ q < quotientBound k ∧ here.next.StopsIn f (n - (quotientBound k - q) - k - 1)
  | .reconStart _ | .emitStart _ _ => f.blockSize + 1 < n
  | .recon _ i _ _ | .wshl _ _ i | .emit _ _ i | .decorRight i => f.blockSize - i < n
  | .decorStart => 2 * f.blockSize + 2 < n
  | .decorLeft i => f.blockSize - i + f.blockSize + 1 < n
  | .fendStart => 25 < n

theorem Purpose.StopsIn.mono {use : Purpose} {f : FrameConfig} {v v' n : Nat} (h : use.StopsIn f v n) (hv : v' ≤ v) :
    use.StopsIn f v' n := by
  cases use with
  | partitionOrder | parameter | rawWidth => exact ⟨hv.trans h.1, h.2⟩
  | _ => exact h

theorem Purpose.StopsIn.pos {use : Purpose} {f : FrameConfig} {v n : Nat} (h : use.StopsIn f v n) : 0 < n := by
  cases use with
  | partitionOrder => exact Nat.zero_lt_of_lt h.2
  | parameter | rawWidth | rawResidual | remainder => exact h.2.pos.trans_le (Nat.sub_le _ _)
  | _ => exact Nat.zero_lt_of_lt h

/-- Every point has a sequencer step to take. -/
theorem Task.StopsIn.pos {t : Task} {f : FrameConfig} {n : Nat} (h : t.StopsIn f n) : 0 < n := by
  cases t with
  | reading => exact (Purpose.StopsIn.pos h).trans_le (Nat.sub_le _ _)
  | partition => exact Nat.zero_lt_of_lt h.2
  | escaped | rice => exact h.2.pos
  | unary => exact h.2.2.pos.trans_le (by omega)
  | _ => exact Nat.zero_lt_of_lt h

/-- An undisturbed command has room for all its sequencer steps. -/
theorem startOf_stopsIn (i : Instr) (f : FrameConfig) : (startOf i).StopsIn f Config.maxBurst := by
  have hN := f.blockSize_lt
  have hburst : Config.maxBurst = 18446744073709551616 := rfl
  cases i <;> simp only [startOf, Task.StopsIn, FrameConfig.sectionSteps, residualSteps] <;> omega

/-! ### One sequencer step -/

/-- The post-condition of a sequencer step that leaves the command at most `n` more. -/
abbrev Advance.StopsIn (f : FrameConfig) (n : Nat) (a : Advance) : Prop :=
  a.Post (fun t _ => t.StopsIn f n) (fun _ => True) (fun _ _ => True)

theorem emitSample_stopsIn {next : Task} {f : FrameConfig} {n : Nat} (h : next.StopsIn f n) (s : State) (ch i : Nat)
    (v : Sample) : (s.emitSample ch i v next).StopsIn f n := by
  unfold State.emitSample
  split
  · exact h
  · trivial

/-- RESID's first partition, whatever the partition order of 4 bits is (R116, R117). -/
theorem finishPartitionOrder_stopsIn {s : State} {b : Buf} {wide : Bool} {po n : Nat} (hpo : po ≤ 15)
    (h : s.frame.sectionSteps < n) : (finishPartitionOrder b wide po s).StopsIn s.frame n := by
  have hpow : 2 ^ po ≤ 2 ^ 15 := Nat.pow_le_pow_right (by decide) hpo
  unfold finishPartitionOrder
  split
  · trivial
  · split
    · trivial
    · next hlen =>
      rw [State.partitionLength, Nat.not_lt] at hlen
      refine ⟨by simpa [ResidPos.stop] using hlen, ?_⟩
      simp only [ResidPos.steps, FrameConfig.sectionSteps, residualSteps] at h ⊢
      omega

theorem finishRead_stopsIn {use : Purpose} {v n : Nat} {s : State} (h : use.StopsIn s.frame v (n + 1)) :
    (finishRead use v s).StopsIn s.frame n := by
  cases use with
  | getb => trivial
  | method b =>
    simp only [finishRead, finishMethod]
    split
    · trivial
    · simp only [Purpose.StopsIn] at h
      exact ⟨by decide, by omega⟩
  | partitionOrder b wide => exact finishPartitionOrder_stopsIn h.1 (Nat.lt_of_succ_lt_succ h.2)
  | parameter here =>
    obtain ⟨hv, h⟩ := h
    simp only [finishRead, finishParameter]
    split
    · exact ⟨by decide, h.mono (by omega)⟩
    · exact ⟨hv, h.mono (by omega)⟩
  | rawWidth here => exact h
  | rawResidual here w => exact h
  | remainder here k q => exact h
  | padding =>
    simp only [finishRead, finishPadding]
    split
    · trivial
    · simp only [Purpose.StopsIn] at h
      exact Nat.sub_pos_of_lt (by omega)
  | footerCrc want =>
    simp only [finishRead, finishFooterCrc]
    split
    · trivial
    · split <;> trivial

theorem endOfStream_stopsIn (s : State) (left : Nat) (use : Purpose) (f : FrameConfig) (n : Nat) :
    (s.endOfStream left use).StopsIn f n := by
  unfold State.endOfStream
  split
  · split <;> trivial
  · trivial

theorem advanceReading_stopsIn {left acc n : Nat} {use : Purpose} {s : State}
    (h : use.StopsIn s.frame (greatestValue left acc) (n + 1 - left)) :
    (advanceReading left acc use s).StopsIn s.frame n := by
  cases left with
  | zero => exact finishRead_stopsIn (by simpa using h)
  | succ rest =>
    rw [Nat.add_sub_add_right] at h
    simp only [advanceReading]
    split
    · exact h.mono (greatestValue_bit_le _ _ _)
    · exact endOfStream_stopsIn _ _ _ _ _
    · trivial

theorem quotientBound_le (k : Nat) : quotientBound k ≤ 4294967296 :=
  Nat.pow_le_pow_right (n := 2) (by decide) (Nat.sub_le 32 k)

theorem quotientBound_pos (k : Nat) : 0 < quotientBound k := Nat.two_pow_pos _

/-- A unary quotient stays below its bound (R121), so it comes to an end. -/
theorem advanceUnary_stopsIn {here : ResidPos} {k q n : Nat} {s : State}
    (h : Task.StopsIn s.frame (n + 1) (.unary here k q)) : (advanceUnary here k q s).StopsIn s.frame n := by
  obtain ⟨hk, hq, h⟩ := h
  unfold advanceUnary
  split
  · exact ⟨hk, h.mono (by omega)⟩
  · split
    · trivial
    · exact ⟨hk, by omega, h.mono (by omega)⟩
  · trivial
  · trivial

/-- Every sequencer step of a command leaves it one step less. -/
theorem advance_stopsIn {t : Task} {n : Nat} {s : State} (h : t.StopsIn s.frame (n + 1)) :
    (advance t s).StopsIn s.frame n := by
  cases t with
  | nop | fstart | raising => trivial
  | fcfg =>
    simp only [advance, advanceFcfg]
    split <;> trivial
  | getbStart signed m =>
    simp only [Task.StopsIn] at h
    simp only [advance, advanceGetbStart]
    split
    · trivial
    · split
      · trivial
      · exact Nat.sub_pos_of_lt (by omega)
  | reading left acc use => exact advanceReading_stopsIn h
  | residStart b =>
    simp only [Task.StopsIn] at h
    simp only [advance, advanceResidStart]
    split
    · trivial
    · split
      · trivial
      · exact Nat.lt_sub_of_add_lt (by omega)
  | partition here =>
    obtain ⟨hidx, hsteps⟩ := h
    simp only [advance, advancePartition]
    split
    · next hpart =>
      refine ⟨?_, hpart, hidx, ?_⟩
      · cases here.wide <;> decide
      · have hwidth : parameterWidth here.wide ≤ 5 := by cases here.wide <;> decide
        omega
    · trivial
  | escaped here w =>
    obtain ⟨hw, h⟩ := h
    simp only [advance, advanceEscaped]
    split
    · next hidx => exact ⟨hw, (h.next hidx).mono (by unfold residualSteps; omega)⟩
    · next hidx => exact h.nextPartition hidx
  | rice here k =>
    obtain ⟨hk, h⟩ := h
    have hbound := quotientBound_le k
    simp only [advance, advanceRice]
    split
    · next hidx => exact ⟨hk, quotientBound_pos k, (h.next hidx).mono (by unfold residualSteps; omega)⟩
    · next hidx => exact h.nextPartition hidx
  | unary here k q => exact advanceUnary_stopsIn h
  | reconStart b =>
    simp only [Task.StopsIn] at h
    simp only [advance, advanceReconStart]
    split
    · trivial
    · split
      · trivial
      · split
        · simp only [Advance.Post, Task.StopsIn]; omega
        · trivial
  | recon b i c sh =>
    simp only [Task.StopsIn] at h
    simp only [advance, advanceRecon]
    split
    · split
      · trivial
      · split
        · trivial
        · simp only [Advance.Post, Task.StopsIn]; omega
    · trivial
  | wshl b k i =>
    simp only [Task.StopsIn] at h
    simp only [advance, advanceWshl]
    split
    · split
      · trivial
      · simp only [Advance.Post, Task.StopsIn]; omega
    · trivial
  | emitStart | decorStart =>
    simp only [Task.StopsIn] at h
    simp only [advance, advanceEmitStart, advanceDecorStart]
    split
    · trivial
    · simp only [Advance.Post, Task.StopsIn]; omega
  | emit | decorRight =>
    simp only [Task.StopsIn] at h
    simp only [advance, advanceEmit, advanceDecorRight]
    split
    · split
      · trivial
      · exact emitSample_stopsIn (by simp only [Task.StopsIn]; omega) _ _ _ _
    · trivial
  | decorLeft =>
    simp only [Task.StopsIn] at h
    simp only [advance, advanceDecorLeft]
    split
    · split
      · trivial
      · exact emitSample_stopsIn (by simp only [Task.StopsIn]; omega) _ _ _ _
    · simp only [Advance.Post, Task.StopsIn]; omega
  | fendStart =>
    have hpad : s.input.padding < 8 := Nat.mod_lt _ (by decide)
    simp only [Task.StopsIn] at h
    exact Nat.lt_sub_of_add_lt (by omega)

/-! ### The run of a command -/

theorem Effect.frame {op : BitVec 4} {s s' : State} (h : Effect op s s') : s'.frame = s.frame := by
  cases h with
  | same | bit | out => rfl
  | scratch _ b i v => exact s.writeScratch_frame b i v

/-- What a sequencer step that goes on leads to: the same command with one step less. -/
theorem Task.StopsIn.go {t t' : Task} {n : Nat} {s s' : State} (h : t.StopsIn s.frame (n + 1))
    (hgo : advance t s = .go t' s') : t'.op = t.op ∧ t'.StopsIn s'.frame n := by
  have hcmd := advance_keepsCommand t s
  have hstep := advance_stopsIn h
  rw [hgo] at hcmd hstep
  obtain ⟨⟨hop, -⟩, heffect⟩ := hcmd
  exact ⟨hop, by rw [heffect.frame]; exact hstep⟩

/-- A command that has its steps does not stop in progress but to wait for a byte. -/
theorem drive_stops {n : Nat} {t : Task} {s u : State} (h : t.StopsIn s.frame n) (hdrive : drive n t s = .next u) :
    u.task = none ∨ ∃ x, u.task = some x ∧ x.op = t.op ∧ advance x u = .wait := by
  induction n generalizing t s with
  | zero => exact absurd h.pos (Nat.lt_irrefl 0)
  | succ n ih =>
    rw [drive_succ] at hdrive
    cases ha : advance t s with
    | go t' s' =>
      obtain ⟨hop, h'⟩ := h.go ha
      rw [ha] at hdrive
      rw [← hop]
      exact ih h' hdrive
    | done | raise => rw [ha] at hdrive; cases hdrive; exact .inl rfl
    | wait =>
      rw [ha] at hdrive
      cases hdrive
      refine .inr ⟨t, rfl, rfl, ?_⟩
      rw [advance_eq_wait_iff] at ha ⊢
      exact ha
    | fault => rw [ha] at hdrive; cases hdrive

/-- More steps than a command has make no difference. -/
theorem drive_add_of_stopsIn {n : Nat} {t : Task} {s : State} (h : t.StopsIn s.frame n) (m : Nat) :
    drive (n + m) t s = drive n t s := by
  induction n generalizing t s with
  | zero => exact absurd h.pos (Nat.lt_irrefl 0)
  | succ n ih =>
    rw [Nat.add_right_comm, drive_succ, drive_succ]
    cases ha : advance t s with
    | go t' s' => exact ih (h.go ha).2
    | done | raise | wait | fault => rfl

/-- An undisturbed command that answers a next state has stopped there, or runs from its first step to a wait. -/
theorem exec_stops {i : Instr} {s t : State} (ht : s.task = none) (hpace : s.pace = []) (h : exec i s = .next t) :
    t.task = none ∨ (legalityOf i s.mode = .ok ∧ drive Config.maxBurst (startOf i) s = .next t ∧
      ∃ x, t.task = some x ∧ x.op = opcodeOf i ∧ advance x t = .wait) := by
  rw [exec_eq_issue] at h
  obtain ⟨-, hi⟩ | ⟨-, hl, hi⟩ | ⟨-, -, hi⟩ := s.issue_cases (legalityOf i) (opcodeOf i) (startOf i) <;> rw [hi] at h
  · cases h
    exact .inl ht
  · rw [State.run_undisturbed hpace] at h
    have hstops := drive_stops (startOf_stopsIn i s.frame) h
    rw [startOf_op] at hstops
    exact hstops.imp_right fun hwait => ⟨hl, h, hwait⟩
  · rw [run_raising hpace] at h
    cases h
    exact .inl rfl

/-! ### A source that has ended -/

theorem Effect.ended {op : BitVec 4} {s s' : State} (h : Effect op s s') :
    s'.input.source.ended = s.input.source.ended := by
  cases h with
  | same | out => rfl
  | bit _ read =>
    obtain ⟨-, -, -, hended, -⟩ := BitInput.readBit_bit read
    exact hended
  | scratch _ b i v => rw [s.writeScratch_input b i v]

theorem Ending.ended {op : BitVec 4} {s s' : State} (h : Ending s op s') :
    s'.input.source.ended = s.input.source.ended := by
  cases h <;> rfl

/-- No command changes whether the source has ended. -/
theorem exec_ended {i : Instr} {s t : State} (h : exec i s = .next t) :
    t.input.source.ended = s.input.source.ended := by
  refine exec_keeps (P := fun _ => True) (Q := fun u => u.input.source.ended = s.input.source.ended)
    (fun _ _ _ _ _ _ hu => hu) (fun x u _ hu => ?_) trivial rfl h
  exact (advance_keepsCommand x u).mono (fun _ _ h => ⟨trivial, h.2.ended.trans hu⟩) (fun _ h => h.ended.trans hu)
    (fun _ _ h => h.ended.trans hu)

/-- Settles O60: a command has room for all its steps (`startOf_stopsIn`), so it is in progress only where it waits for
a byte, and a source that has ended leaves no ReadBit waiting. -/
theorem answeredCommandsStop : Obligations.AnsweredCommandsStop := by
  intro i s t ht hpace hended h
  refine (exec_stops ht hpace h).resolve_right ?_
  rintro ⟨-, -, x, -, -, hwait⟩
  obtain ⟨-, hread⟩ := (advance_eq_wait_iff x t).1 hwait
  obtain ⟨-, -, hopen⟩ := (BitInput.readBit_eq_wait_iff _).1 hread
  rw [exec_ended h, hended] at hopen
  cases hopen

end Sys2Proof.Machine
end

section
/-! A command whose byte source answers later (R102, R104): what stands behind the bytes at hand has no part in a
sequencer step that goes on. -/

namespace Sys2Proof.Machine

/-! ### A source with more to answer -/

/-- The source with the bytes `more` behind those at hand, and at its end behind them if `last` says so. -/
def ByteSource.answer (p : ByteSource) (more : List Byte) (last : Bool) : ByteSource :=
  { bytes := p.bytes ++ more, ended := p.ended || last }

theorem ByteSource.answer_byte (p : ByteSource) (b : Byte) :
    p.answer [b] false = { p with bytes := p.bytes ++ [b] } := by simp [ByteSource.answer]

theorem ByteSource.answer_end (p : ByteSource) : p.answer [] true = { p with ended := true } := by
  simp [ByteSource.answer]

theorem ByteSource.deliver_open {p : ByteSource} (h : p.ended = false) (b : Byte) : p.deliver b = p.answer [b] false := by
  simp [ByteSource.deliver, ByteSource.answer, h]

/-- The state with the answers `more` and `last` behind the bytes at hand. -/
abbrev State.answered (s : State) (more : List Byte) (last : Bool) : State :=
  s.withSource (s.input.source.answer more last)

/-- A bit that is at hand is the same with more behind it. -/
theorem BitInput.readBit_answer {p q : BitInput} {v : Bool} (h : p.readBit = .bit v q) (more : List Byte) (last : Bool) :
    BitInput.readBit { p with source := p.source.answer more last } =
      .bit v { q with source := q.source.answer more last } := by
  obtain ⟨h0, hr⟩ | ⟨byte, rest, h0, hb, hr⟩ | ⟨_, _, _, hr⟩ | ⟨_, _, _, hr⟩ := p.readBit_cases <;> rw [hr] at h <;> cases h
  · rw [BitInput.readBit, if_pos h0]
    rfl
  · simp [BitInput.readBit, BitInput.nextBit, BitInput.consume, ByteSource.answer, h0, hb]

/-! ### A sequencer step -/

/-- A sequencer step's answer with another source in its state. -/
def Advance.withSource (p : ByteSource) : Advance → Advance
  | .go t s => .go t (s.withSource p)
  | .done s => .done (s.withSource p)
  | .raise e s => .raise e (s.withSource p)
  | .wait => .wait
  | .fault f => .fault f

@[simp] theorem Advance.withSource_ite (p : ByteSource) (c : Prop) [Decidable c] (a b : Advance) :
    (if c then a else b).withSource p = if c then a.withSource p else b.withSource p := apply_ite _ c a b

@[simp] theorem State.withSource_writeScratch (s : State) (p : ByteSource) (b : Buf) (i : Nat) (v : Sample) :
    (s.withSource p).writeScratch b i v = (s.writeScratch b i v).withSource p := by cases b <;> rfl

/-- The source has no part in the use of a field's value. -/
theorem finishRead_withSource (use : Purpose) (v : Nat) (s : State) (p : ByteSource) :
    finishRead use v (s.withSource p) = (finishRead use v s).withSource p := by
  cases use with
  | getb | rawWidth => rfl
  | rawResidual | remainder =>
    simp only [finishRead, finishRawResidual, finishRemainder, State.withSource_writeScratch, Advance.withSource]
  | method | parameter | padding | partitionOrder | footerCrc =>
    simp only [finishRead, finishMethod, finishParameter, finishPadding, finishPartitionOrder, finishFooterCrc,
      Advance.withSource_ite]
    rfl

/-- The source has no part in a step of GETB, RESID or FEND that is no ReadBit. -/
theorem advance_withSource {t : Task} (hop : readsBits t.op) (hbit : t.needsBit = false) (s : State) (p : ByteSource) :
    advance t (s.withSource p) = (advance t s).withSource p := by
  cases t with
  | reading left acc use =>
    cases left with
    | zero => exact finishRead_withSource use acc s p
    | succ => cases hbit
  | unary => cases hbit
  | fendStart | raising => rfl
  | getbStart | residStart | partition | escaped | rice =>
    simp only [advance, advanceGetbStart, advanceResidStart, advancePartition, advanceEscaped, advanceRice,
      Advance.withSource_ite]
    rfl
  | _ => simp [Task.op, readsBits] at hop

/-- A step that goes on at a ReadBit has a bit at hand. -/
theorem exists_bit_of_go {t t' : Task} {s s' : State} (hbit : t.needsBit = true) (hgo : advance t s = .go t' s') :
    ∃ v q, s.input.readBit = .bit v q ∧ s' = { s with input := q } := by
  obtain ⟨left, acc, use, rfl⟩ | ⟨here, k, q, rfl⟩ := t.needsBit_iff.1 hbit
  · simp only [advance, advanceReading] at hgo
    split at hgo
    · next v q hr => cases hgo; exact ⟨v, q, hr, rfl⟩
    · unfold State.endOfStream at hgo
      split at hgo
      · split at hgo <;> cases hgo
      · cases hgo
    · cases hgo
  · simp only [advance, advanceUnary] at hgo
    split at hgo
    · next q hr => cases hgo; exact ⟨true, q, hr, rfl⟩
    · next q hr =>
      split at hgo <;> cases hgo
      exact ⟨false, q, hr, rfl⟩
    · cases hgo
    · cases hgo

/-- A step of GETB, RESID or FEND that goes on does the same with more answers behind the bytes at hand. -/
theorem advance_answered {t t' : Task} {s s' : State} (hop : readsBits t.op) (hgo : advance t s = .go t' s')
    (more : List Byte) (last : Bool) : advance t (s.answered more last) = .go t' (s'.answered more last) := by
  cases hbit : t.needsBit with
  | false =>
    have hsame : s' = s'.withSource s.input.source := by
      have h := advance_withSource hop hbit s s.input.source
      rw [show s.withSource s.input.source = s from rfl, hgo] at h
      exact (Advance.go.inj h).2
    have hsource : s'.input.source = s.input.source := by rw [hsame]; rfl
    rw [State.answered, advance_withSource hop hbit, hgo, State.answered, hsource]
    rfl
  | true =>
    obtain ⟨v, q, hr, rfl⟩ := exists_bit_of_go hbit hgo
    have hr' := BitInput.readBit_answer hr more last
    obtain ⟨left, acc, use, rfl⟩ | ⟨here, k, z, rfl⟩ := t.needsBit_iff.1 hbit
    · simp only [advance, advanceReading, hr, Advance.go.injEq] at hgo
      obtain ⟨rfl, -⟩ := hgo
      simp only [advance, advanceReading, State.withSource_input, hr']
      rfl
    · simp only [advance, advanceUnary, State.withSource_input, hr, hr'] at hgo ⊢
      cases v with
      | true => cases hgo; rfl
      | false =>
        simp only at hgo ⊢
        split at hgo <;> cases hgo
        next hq =>
        rw [if_neg hq]
        rfl

/-- Only GETB, RESID and FEND come to a ReadBit. -/
theorem Task.readsBits_of_needsBit {t : Task} (h : t.needsBit = true) : readsBits t.op := by
  obtain ⟨_, _, use, rfl⟩ | ⟨_, _, _, rfl⟩ := t.needsBit_iff.1 h
  · exact use.op_readsBits
  · exact .inr (.inl rfl)

/-! ### The run of a command -/

theorem Effect.schedule {op : BitVec 4} {s s' : State} (h : Effect op s s') :
    s'.pace = s.pace ∧ s'.events = s.events := by
  cases h with
  | same | bit | out => exact ⟨rfl, rfl⟩
  | scratch _ b i v => exact ⟨s.writeScratch_pace b i v, s.writeScratch_events b i v⟩

theorem Ending.schedule {op : BitVec 4} {s s' : State} (h : Ending s op s') :
    s'.pace = s.pace ∧ s'.events = s.events := by
  cases h <;> exact ⟨rfl, rfl⟩

/-- The stored task has no part in where a command comes to. -/
theorem Reaches.storedTask (t : Task) (s : State) (o : Option Task) : Reaches 0 t s t (s.withTask o) :=
  ⟨0, le_rfl, fun m => by rw [Nat.zero_add, drive_withTask]⟩

/-- Where GETB, RESID or FEND stops in progress, it comes to the same point with more answers behind the bytes at hand,
with those answers still to come. -/
theorem reaches_answered {n : Nat} {t x : Task} {s u : State} (hop : readsBits t.op) (hdrive : drive n t s = .next u)
    (hx : u.task = some x) (more : List Byte) (last : Bool) :
    Reaches n t (s.answered more last) x (u.answered more last) := by
  have stopped (t : Task) (s : State) := Reaches.storedTask t (s.answered more last) (some t)
  induction n generalizing t s with
  | zero =>
    cases hdrive
    cases hx
    exact stopped _ _
  | succ n ih =>
    rw [drive_succ] at hdrive
    cases ha : advance t s with
    | go t' s' =>
      rw [ha] at hdrive
      have hcmd := advance_keepsCommand t s
      rw [ha] at hcmd
      obtain ⟨⟨hop', -⟩, -⟩ := hcmd
      exact ((Reaches.go (advance_answered hop ha more last)).trans (ih (hop' ▸ hop) hdrive)).mono (by omega)
    | done | raise => rw [ha] at hdrive; cases hdrive; cases hx
    | wait =>
      rw [ha] at hdrive
      cases hdrive
      cases hx
      exact (stopped _ _).mono (Nat.zero_le _)
    | fault => rw [ha] at hdrive; cases hdrive

/-- A command leaves the schedule and the events as they are. -/
theorem drive_schedule {n : Nat} {t : Task} {s u : State} (hdrive : drive n t s = .next u) :
    u.pace = s.pace ∧ u.events = s.events := by
  refine drive_next_of_post (P := fun _ v => v.pace = s.pace ∧ v.events = s.events)
    (Q := fun v => v.pace = s.pace ∧ v.events = s.events) (fun x v hv => ?_) (fun _ _ hv => hv) ⟨rfl, rfl⟩ hdrive
  exact (advance_keepsCommand x v).mono (fun _ _ h => by rwa [h.2.schedule.1, h.2.schedule.2])
    (fun _ h => by rwa [State.complete_pace, State.complete_events, h.schedule.1, h.schedule.2])
    (fun _ _ h => by rwa [State.errorEntry_pace, State.errorEntry_events, h.schedule.1, h.schedule.2])

/-- An answer of the source that reaches a waiting command lets it go on. -/
theorem step_answered {e : Event} {t : State} {x : Task} {more : List Byte} {last : Bool} (hx : t.task = some x)
    (hpace : t.pace = []) (hevents : t.events = []) (hperform : perform e t = .next (t.answered more last)) :
    step { t with events := [e] } = drive Config.maxBurst x (t.answered more last) := by
  have hpopped : { { t with events := [e] } with events := [] } = t := by rw [← hevents]
  have hstep : step { t with events := [e] } = (t.answered more last).resume :=
    stepResumesCommandInProgress.2 { t with events := [e] } _ x e [] hx rfl (by rw [hpopped, hperform])
  rw [hstep, State.resume, State.withSource_task, hx]
  exact State.run_undisturbed (s := t.answered more last) hpace x

/-- Settles O23: the waiting command comes to its wait in the answered state too (`reaches_answered`), and the steps it
has left there suffice (`drive_add_of_stopsIn`). -/
theorem lateAnswerEndsTheCommandAsAnEarlyOne : Obligations.LateAnswerEndsTheCommandAsAnEarlyOne := by
  intro i s t b ht hpace hevents h hbusy
  obtain hnone | ⟨hl, hdrive, x, hx, hop, hwait⟩ := exec_stops ht hpace h
  · simp [State.busy, hnone] at hbusy
  obtain ⟨hbit, hread⟩ := (advance_eq_wait_iff x t).1 hwait
  obtain ⟨-, -, hopen⟩ := (BitInput.readBit_eq_wait_iff _).1 hread
  have hreads : readsBits (startOf i).op := by rw [startOf_op, ← hop]; exact Task.readsBits_of_needsBit hbit
  obtain ⟨hpaceKept, heventsKept⟩ := drive_schedule hdrive
  have key : ∀ e more last, perform e t = .next (t.answered more last) →
      step { t with events := [e] } = exec i (s.answered more last) := by
    intro e more last hperform
    obtain ⟨k, -, hreach⟩ := reaches_answered hreads hdrive hx more last
    calc step { t with events := [e] } = drive Config.maxBurst x (t.answered more last) :=
          step_answered hx (hpaceKept.trans hpace) (heventsKept.trans hevents) hperform
      _ = drive (Config.maxBurst + k) (startOf i) (s.answered more last) := by rw [← hreach, Nat.add_comm]
      _ = drive Config.maxBurst (startOf i) (s.answered more last) := drive_add_of_stopsIn (startOf_stopsIn i _) k
      _ = (s.answered more last).run (startOf i) := (State.run_undisturbed (s := s.answered more last) hpace _).symm
      _ = exec i (s.answered more last) := (exec_of_legal (s := s.answered more last) ht hl).symm
  rw [← ByteSource.answer_byte, ← ByteSource.answer_end]
  refine ⟨key _ _ _ ?_, key _ _ _ ?_⟩
  · rw [perform_outside rfl, outsideEvent, ByteSource.deliver_open hopen]
  · rw [perform_outside rfl, outsideEvent, ← ByteSource.answer_end]

end Sys2Proof.Machine
end

section
/-! The checks of RESID and RECON before any other effect (R114, R125, R128), and RESID's checks of the method and the
partition order (R115 to R117). -/

namespace Sys2Proof.Machine

/-! ### PcfgCheck and the sign of the shift -/

/-- The orders PcfgCheck does not let pass (R125). -/
theorem PredictorConfig.legal_eq_false_iff (p : PredictorConfig) :
    p.legal = false ↔
      p.kind = .fixed ∧ 4 < p.order.toNat ∨ p.kind = .lpc ∧ (p.order.toNat = 0 ∨ 32 < p.order.toNat) := by
  unfold PredictorConfig.legal
  cases p.kind <;> simp only [decide_eq_false_iff_not, reduceCtorEq, true_and, false_and, false_or, or_false] <;> omega

/-- The sign of the shift counts for an LPC predictor only (R114, R128). -/
theorem PredictorConfig.negativeShift_of_lpc {p : PredictorConfig} (h : p.kind = .lpc) :
    p.negativeShift = p.shift.getLsbD 4 := by
  simp only [PredictorConfig.negativeShift, h]

/-- Settles O27: both commands end at their first sequencer step. -/
theorem predictorConfigIsCheckedFirst : Obligations.PredictorConfigIsCheckedFirst := by
  intro s b ⟨hmode, htask, hpace⟩
  have hl : legalInBody s.mode = .ok := by rw [hmode]; rfl
  refine ⟨fun hillegal => ?_, fun hkind hlow hhigh hsign => ?_⟩
  · have hcheck : ¬s.pcfg.legal = true := by simpa using s.pcfg.legal_eq_false_iff.2 hillegal
    exact ⟨exec_raises_of_reaches (i := .resid b) htask hpace hl maxBurst_pos (.refl _ s) (if_pos hcheck),
      exec_raises_of_reaches (i := .recon b) htask hpace hl maxBurst_pos (.refl _ s) (if_pos hcheck)⟩
  · have hlegal : s.pcfg.legal = true := by
      rw [← Bool.not_eq_false, s.pcfg.legal_eq_false_iff, hkind]
      rintro (⟨hfixed, -⟩ | ⟨-, horder⟩)
      · cases hfixed
      · omega
    have hshift : s.pcfg.negativeShift = true := (PredictorConfig.negativeShift_of_lpc hkind).trans hsign
    have hcheck : ¬¬s.pcfg.legal = true := not_not_intro hlegal
    exact ⟨exec_raises_of_reaches (i := .resid b) htask hpace hl maxBurst_pos (.refl _ s)
        ((if_neg hcheck).trans (if_pos hshift)),
      exec_raises_of_reaches (i := .recon b) htask hpace hl maxBurst_pos (.refl _ s)
        ((if_neg hcheck).trans (if_pos hshift))⟩

/-! ### The method and the partition order -/

section
variable {s : State} (b : Buf) (hlegal : s.pcfg.legal = true) (hshift : s.pcfg.negativeShift = false)
include hlegal hshift

/-- RESID has read the method, whatever it is (R115). -/
theorem reaches_method (h : 2 ≤ s.input.bits.length) :
    Reaches 3 (.residStart b) s (.reading 0 (bitsValue (s.input.bits.take 2)) (.method b)) (s.skipBits 2) := by
  have hstart : Reaches 1 (.residStart b) s (.reading 2 0 (.method b)) s := .go (by
    simp [advance, advanceResidStart, hlegal, hshift])
  exact hstart.trans (reaches_field (.method b) h)

/-- RESID has read the partition order, behind a method that is not reserved (R115, R116). -/
theorem reaches_partitionOrder (h : 6 ≤ s.input.bits.length) (hmethod : bitsValue (s.input.bits.take 2) < 2) :
    Reaches 8 (.residStart b) s
      (.reading 0 (bitsValue ((s.input.bits.drop 2).take 4))
        (.partitionOrder b (decide (bitsValue (s.input.bits.take 2) = 1))))
      (s.skipBits 6) := by
  have hgo : Reaches 1 (.reading 0 (bitsValue (s.input.bits.take 2)) (.method b)) (s.skipBits 2)
      (.reading 4 0 (.partitionOrder b (decide (bitsValue (s.input.bits.take 2) = 1)))) (s.skipBits 2) :=
    .go (if_neg (Nat.not_le.2 hmethod))
  have hbits : (s.skipBits 2).input.bits = s.input.bits.drop 2 := State.skipBits_bits (by omega)
  have horder := reaches_field (n := 4) (.partitionOrder b (decide (bitsValue (s.input.bits.take 2) = 1)))
    (s := s.skipBits 2) (by rw [hbits, List.length_drop]; omega)
  rw [hbits, State.skipBits_skipBits] at horder
  exact ((reaches_method b hlegal hshift (by omega)).trans hgo).trans horder

end

/-- Settles O28: the check that fails is the line behind `reaches_method` or `reaches_partitionOrder`. -/
theorem residChecksMethodThenPartitionOrder : Obligations.ResidChecksMethodThenPartitionOrder := by
  intro s b ⟨hmode, htask, hpace⟩ hlegal hshift
  have hl : legalInBody s.mode = .ok := by rw [hmode]; rfl
  have hburst : 8 < Config.maxBurst := by decide
  refine ⟨fun h2 hreserved => ?_, fun h6 hmethod => ?_⟩
  · exact exec_raises_of_reaches (i := .resid b) htask hpace hl (by omega) (reaches_method b hlegal hshift h2)
      (if_pos hreserved)
  · have hreach := reaches_partitionOrder b hlegal hshift h6 hmethod
    refine ⟨fun hdiv => ?_, fun hdiv hsmall => ?_⟩
    · exact exec_raises_of_reaches (i := .resid b) htask hpace hl hburst hreach (if_pos hdiv)
    · exact exec_raises_of_reaches (i := .resid b) htask hpace hl hburst hreach
        ((if_neg (not_not_intro hdiv)).trans (if_pos hsmall))

end Sys2Proof.Machine
end

section
/-! The bound on the unary quotient of a Rice code (R121). -/

namespace Sys2Proof.Machine

section
variable {f : FrameConfig} {c : PredictorConfig} {b : Buf} {i : Nat}

/-- The head of the partition's loop at index `j`, behind the complete partitions `done` and the residuals `p` has, is
reached in less than 2^62 sequencer steps (R83, R118). -/
theorem decodes_begunPartition {wide : Bool} {po : Nat} {done : List PartitionCode} {p : PartitionCode}
    (hlegal : c.legal = true) (hshift : c.negativeShift = false)
    (hopen : sectionOpen wide po f.blockSize c.order.toNat done = true)
    (hbegun : p.begun wide (nextCount po f.blockSize c.order.toNat done) = true) :
    Decodes f c (2 ^ 62) (.residStart b) (sectionBits wide po (done ++ [p])) b c.order.toNat
      ((done ++ [p]).flatMap PartitionCode.samples)
      (p.task { buf := b, wide := wide, order := po, part := done.length, idx := c.order.toNat }
        (c.order.toNat + ((done ++ [p]).flatMap PartitionCode.samples).length)) := by
  have hN := f.blockSize_lt
  obtain ⟨hpart, hdone, hsamples⟩ := sectionOpen_bound hopen
  obtain ⟨hstop, hle⟩ := nextCount_stop hopen
  simp only [PartitionCode.begun, Bool.and_eq_true, decide_eq_true_eq] at hbegun
  obtain ⟨hfits, hcount⟩ := hbegun
  have hpartition := decodes_partition (f := f) (c := c)
    (here := { buf := b, wide := wide, order := po, part := done.length,
               idx := c.order.toNat + (done.flatMap PartitionCode.samples).length })
    hfits hpart (by simp only [ResidPos.stop]; omega)
  have hall := (decodes_section hlegal hshift hopen).trans hpartition
  have htask : ∀ j k, p.task { buf := b, wide := wide, order := po, part := done.length, idx := j } k =
      p.task { buf := b, wide := wide, order := po, part := done.length, idx := c.order.toNat } k := by
    cases p <;> exact fun _ _ => rfl
  rw [htask] at hall
  simp only [sectionBits, List.flatMap_append, List.flatMap_cons, List.flatMap_nil, List.append_nil, List.length_append,
    ← List.append_assoc, ← Nat.add_assoc] at hall ⊢
  exact hall.mono (by unfold residualSteps; omega)

/-- The index behind the residuals of a begun partition lies in that partition (R118). -/
theorem begunPartition_index_lt {wide : Bool} {po n ord : Nat} {done : List PartitionCode} {p : PartitionCode}
    (hopen : sectionOpen wide po n ord done = true) (hbegun : p.begun wide (nextCount po n ord done) = true) :
    ord + ((done ++ [p]).flatMap PartitionCode.samples).length < (done.length + 1) * (n / 2 ^ po) := by
  obtain ⟨hstop, -⟩ := nextCount_stop hopen
  simp only [PartitionCode.begun, Bool.and_eq_true, decide_eq_true_eq] at hbegun
  simp only [List.flatMap_append, List.flatMap_cons, List.flatMap_nil, List.append_nil, List.length_append]
  omega

/-- A Rice code's zeros, as long as they are fewer than R121's bound (R120). -/
theorem decodes_riceZeros {here : ResidPos} {k n : Nat} (hidx : here.idx < here.stop f) (hn : n < quotientBound k) :
    Decodes f c (1 + n) (.rice here k) (List.replicate n false) b i [] (.unary here k n) := by
  have hloop : Decodes f c 1 (.rice here k) [] b i [] (.unary here k 0) := .go fun s hf _ => by
    simp only [advance, advanceRice, here.partitionEnd_eq hf, if_pos hidx]
  have hall := hloop.trans (decodes_zeros (q := 0) (n := n) (by rwa [Nat.zero_add]))
  rwa [Nat.zero_add, List.nil_append, List.append_nil] at hall

end

/-- The zero that brings a unary quotient to its bound (R121). -/
theorem advance_unary_at_bound {here : ResidPos} {k q : Nat} {s : State} {rest : List Bool}
    (hq : q + 1 = quotientBound k) (hbits : s.input.bits = false :: rest) :
    advance (.unary here k q) s = .raise (.residualOverflow here.idx) (s.skipBits 1) := by
  obtain ⟨p, hr, -⟩ := BitInput.readBit_of_bits hbits
  simp [advance, advanceUnary, hr, hq, State.skipBits, BitInput.advanceBy]

/-- Settles O29: RESID comes to the code (`decodes_begunPartition`) and through all its zeros but the last
(`decodes_riceZeros`), which raises the error. -/
theorem residBoundsTheUnaryQuotient : Obligations.ResidBoundsTheUnaryQuotient := by
  intro s b wide po k done vs rest ⟨hmode, htask, hpace⟩ hlegal hshift hopen hbegun hbits
  have hcode := decodes_begunPartition (b := b) hlegal hshift hopen hbegun
  have hidx := begunPartition_index_lt hopen hbegun
  obtain ⟨q, hq⟩ : ∃ q, 2 ^ (32 - k) = q + 1 := ⟨_, (Nat.sub_add_cancel (quotientBound_pos k)).symm⟩
  have hle : q + 1 ≤ 4294967296 := hq ▸ quotientBound_le k
  have hall := hcode.trans (decodes_riceZeros (k := k) (n := q) hidx (Nat.lt_of_succ_le hq.ge))
  generalize sectionBits wide po (done ++ [PartitionCode.rice k vs]) = front at *
  generalize (done ++ [PartitionCode.rice k vs]).flatMap PartitionCode.samples = vals at *
  rw [hq, List.replicate_succ', ← List.append_assoc, List.append_assoc] at hbits
  have hreach := hall s _ rfl rfl hbits
  have hlast : ((s.writeFrom b s.pcfg.order.toNat (vals ++ [])).skipBits
      (front ++ List.replicate q false).length).input.bits = false :: rest := by
    rw [State.skipBits_bits (by simp [hbits])]
    simp [hbits]
  rw [exec_raises_of_reaches (i := .resid b) htask hpace (by rw [hmode]; rfl)
    (by unfold Config.maxBurst; omega) hreach (advance_unary_at_bound hq.symm hlast), State.skipBits_skipBits,
    State.skipBits, State.writeFrom_input, List.append_nil, List.length_append, List.length_replicate, hq, Nat.add_assoc]
  rfl

end Sys2Proof.Machine
end

section
/-! RECON and WSHL with every entry written: a loop over a block that replaces one entry in each turn (R126 to R133). -/

namespace Sys2Proof.Machine

/-! ### Entries held -/

theorem State.holds_writeScratch {s : State} {b : Buf} {xs : List Sample} (h : s.holds b xs) (i : Nat) (v : Sample) :
    (s.writeScratch b i v).holds b (xs.set i v) := by
  refine List.ext_getElem (by simp) fun j hj _ => ?_
  have hj' : j < xs.length := by simpa using hj
  by_cases hij : i = j
  · simp [State.readScratch_writeScratch, hij]
  · simp [State.readScratch_writeScratch, hij, Ne.symm hij, State.readScratch_of_holds h hj']

/-- The entry behind the samples `hist`, which are listed from the most recent back. -/
theorem State.readScratch_of_holds_cons {s : State} {b : Buf} {hist rest : List Sample} {x : Sample}
    (h : s.holds b (hist.reverse ++ x :: rest)) : s.readScratch b hist.length = some x := by
  simpa using State.readScratch_of_holds h (i := hist.length) (by simp)

/-! ### A loop that replaces the entries of a block -/

/-- The values a loop leaves in place of the entries `xs`: each is `new` of the values before it (most recent first) and
of the entry it replaces. -/
def rewritten (new : List Sample → Sample → Sample) : (hist xs : List Sample) → List Sample
  | _, [] => []
  | hist, x :: xs => new hist x :: rewritten new (new hist x :: hist) xs

theorem rewritten_eq_map (g : Sample → Sample) (hist xs : List Sample) :
    rewritten (fun _ x => g x) hist xs = xs.map g := by
  induction xs generalizing hist with
  | nil => rfl
  | cons x xs ih => simp only [rewritten, List.map_cons, ih]

/-- RECON's recurrence is such a replacement (R129). -/
theorem reconstructed_eq_rewritten (c : List Sample) (sh : Nat) (hist rs : List Sample) :
    reconstructed c sh hist rs = rewritten (fun hist r => r + (prediction c hist).sshiftRight sh) hist rs := by
  induction rs generalizing hist with
  | nil => rfl
  | cons r rs ih => simp only [reconstructed, rewritten, ih]

/-- A loop whose turns from index `lo` on replace the entry at their index by `new` rewrites the rest of the block. -/
theorem reaches_rewriteLoop {T : Nat → Task} {b : Buf} {lo : Nat} {new : List Sample → Sample → Sample}
    (turn : ∀ u hist x rest, lo ≤ hist.length → hist.length < u.frame.blockSize →
      u.holds b (hist.reverse ++ x :: rest) →
      advance (T hist.length) u = .go (T (hist.length + 1)) (u.writeScratch b hist.length (new hist x)))
    {u : State} {hist xs : List Sample} (hlo : lo ≤ hist.length) (hlen : hist.length + xs.length = u.frame.blockSize)
    (hholds : u.holds b (hist.reverse ++ xs)) :
    Reaches xs.length (T hist.length) u (T u.frame.blockSize) (u.writeFrom b hist.length (rewritten new hist xs)) := by
  induction xs generalizing u hist with
  | nil => rw [← hlen]; exact .refl _ _
  | cons x xs ih =>
    rw [List.length_cons] at hlen
    have hwritten := State.holds_writeScratch hholds hist.length (new hist x)
    have hrest := ih (u := u.writeScratch b hist.length (new hist x)) (hist := new hist x :: hist)
      (by rw [List.length_cons]; omega) (by simp only [State.writeScratch_frame, List.length_cons]; omega)
      (by simpa using hwritten)
    rw [State.writeScratch_frame] at hrest
    rw [List.length_cons, Nat.add_comm]
    exact (Reaches.go (turn u hist x xs hlo (by omega) hholds)).trans hrest

/-! ### WSHL -/

/-- A shift to the left is a product with a power of 2, modulo 2^64 (R133). -/
theorem ofInt_toInt_mul_two_pow (x : Sample) (k : Nat) : BitVec.ofInt 64 (x.toInt * 2 ^ k) = x <<< k := by
  have hpow : BitVec.ofInt 64 (2 ^ k) = BitVec.twoPow 64 k := by
    rw [← Nat.cast_ofNat (R := Int), ← Nat.cast_pow, BitVec.ofInt_natCast]
    exact BitVec.eq_of_toNat_eq (by simp)
  rw [BitVec.ofInt_mul, BitVec.ofInt_toInt, hpow, BitVec.shiftLeft_eq_mul_twoPow]

theorem advance_wshl {u : State} {b : Buf} {k i : Nat} {x : Sample} (hi : i < u.frame.blockSize)
    (hx : u.readScratch b i = some x) :
    advance (.wshl b k i) u = .go (.wshl b k (i + 1)) (u.writeScratch b i (x <<< k)) := by
  simp only [advance, advanceWshl, if_pos hi, hx]

/-- Settles O32: the loop of `reaches_rewriteLoop` from index 0, each turn a shift (`advance_wshl`). -/
theorem wshlShiftsEverySample : Obligations.WshlShiftsEverySample := by
  intro s b k xs ⟨hmode, htask, hpace⟩ hlen hholds
  have hbound : xs.length < Config.maxBurst := by
    have := s.frame.blockSize_lt
    unfold Config.maxBurst
    omega
  have hloop := reaches_rewriteLoop (T := .wshl b k) (hist := []) (new := fun _ x => x <<< k)
    (fun u hist x rest _ hi hu => advance_wshl hi (State.readScratch_of_holds_cons hu)) (Nat.zero_le _)
    (by simpa using hlen) hholds
  rw [rewritten_eq_map, List.length_nil] at hloop
  simp only [ofInt_toInt_mul_two_pow]
  refine exec_completes_of_reaches (i := .wshl b k) htask hpace (by rw [hmode]; rfl) hbound hloop ?_
  simp only [advance, advanceWshl, State.writeFrom_frame, lt_irrefl, if_false]

/-! ### RECON -/

theorem prediction_cons (c x : Sample) (cs hist : List Sample) :
    prediction (c :: cs) (x :: hist) = x * c + prediction cs hist := by simp [prediction]

/-- The accumulator is the prediction from the samples below the index (R126, R129). -/
theorem State.accumulate_eq_prediction {s : State} {b : Buf} {c hist rest : List Sample} (hc : c.length ≤ hist.length)
    (hholds : s.holds b (hist.reverse ++ rest)) (acc : Sample) :
    s.accumulate b c hist.length acc = .ok (acc + prediction c hist) := by
  induction c generalizing hist rest acc with
  | nil => simp [State.accumulate, prediction]
  | cons c cs ih =>
    match hist with
    | [] => simp at hc
    | x :: hist =>
      have hholds' : s.holds b (hist.reverse ++ x :: rest) := by simpa using hholds
      simp only [State.accumulate, List.length_cons, Nat.add_sub_cancel, State.readScratch_of_holds_cons hholds']
      rw [ih (Nat.le_of_succ_le_succ hc) hholds', prediction_cons, add_assoc]

/-- One turn of RECON's loop (R129). -/
theorem advance_recon {u : State} {b : Buf} {c hist rest : List Sample} {sh : Nat} {r : Sample}
    (hc : c.length ≤ hist.length) (hi : hist.length < u.frame.blockSize) (hu : u.holds b (hist.reverse ++ r :: rest)) :
    advance (.recon b hist.length c sh) u = .go (.recon b (hist.length + 1) c sh)
      (u.writeScratch b hist.length (r + (prediction c hist).sshiftRight sh)) := by
  simp only [advance, advanceRecon, if_pos hi, State.accumulate_eq_prediction hc hu, State.readScratch_of_holds_cons hu,
    zero_add]

/-- With their tags set, `lpcCoefs` reads the coefficients in order, sign-extended (R126). -/
theorem State.lpcCoefs_eq {s : State} {n j : Nat} (h : ∀ i, j ≤ i → i < j + n → s.coefValid i = true) :
    s.lpcCoefs n j = .ok ((List.range' j n).map fun i => (s.coefAt i).signExtend 64) := by
  induction n generalizing j with
  | zero => rfl
  | succ n ih =>
    have hrest := ih (j := j + 1) fun i h1 h2 => h i (by omega) (by omega)
    simp only [State.lpcCoefs, h j le_rfl (by omega), if_true, hrest, List.range'_succ, List.map_cons]

theorem State.predictorCoefs_eq {s : State}
    (hvalid : s.pcfg.kind = .lpc → ∀ j, j < s.pcfg.order.toNat → s.coefValid j = true) :
    s.predictorCoefs = .ok
      (if s.pcfg.kind = .fixed then fixedCoefs s.pcfg.order.toNat
       else (List.range s.pcfg.order.toNat).map fun j => (s.coefAt j).signExtend 64) := by
  unfold State.predictorCoefs
  cases hk : s.pcfg.kind with
  | fixed => rfl
  | lpc => exact (State.lpcCoefs_eq fun i _ hi => hvalid hk i (by omega)).trans (by rw [List.range_eq_range']; rfl)

theorem PredictorConfig.shiftAmount_eq (p : PredictorConfig) :
    p.shiftAmount = if p.kind = .fixed then 0 else (p.shift.extractLsb' 0 4).toNat := by
  unfold PredictorConfig.shiftAmount
  cases p.kind <;> rfl

section
variable {s : State} {b : Buf} {c : List Sample} (hready : s.ready .body) (hlegal : s.pcfg.legal = true)
  (hshift : s.pcfg.negativeShift = false) (hcoefs : s.predictorCoefs = .ok c)
include hready hlegal hshift hcoefs

/-- RECON completes where its loop ends, and clears the coefficient tags there (R132). -/
theorem exec_recon_of_reaches {bound i : Nat} {u : State} (hbound : bound + 1 < Config.maxBurst)
    (hloop : Reaches bound (.recon b s.pcfg.order.toNat c s.pcfg.shiftAmount) s (.recon b i c s.pcfg.shiftAmount) u)
    (hend : u.frame.blockSize ≤ i) :
    exec (.recon b) s = .next { u with coefTag := Vector.replicate 32 false }.complete := by
  obtain ⟨hmode, htask, hpace⟩ := hready
  have hstart : advance (.reconStart b) s = .go (.recon b s.pcfg.order.toNat c s.pcfg.shiftAmount) s := by
    simp [advance, advanceReconStart, hlegal, hshift, hcoefs]
  refine exec_completes_of_reaches (i := .recon b) htask hpace (by rw [hmode]; rfl) (by omega)
    ((Reaches.go hstart).trans hloop) ?_
  simp only [advance, advanceRecon, if_neg (Nat.not_lt.2 hend)]

theorem exec_recon_of_order_ge (horder : s.frame.blockSize ≤ s.pcfg.order.toNat) :
    exec (.recon b) s = .next { s with coefTag := Vector.replicate 32 false }.complete :=
  exec_recon_of_reaches hready hlegal hshift hcoefs (by decide) (.refl _ s) horder

theorem exec_recon_of_holds {xs : List Sample} (hc : c.length = s.pcfg.order.toNat)
    (hlen : xs.length = s.frame.blockSize) (hholds : s.holds b xs) :
    exec (.recon b) s = .next
      { s.writeFrom b s.pcfg.order.toNat
          (reconstructed c s.pcfg.shiftAmount (xs.take s.pcfg.order.toNat).reverse (xs.drop s.pcfg.order.toNat)) with
        coefTag := Vector.replicate 32 false }.complete := by
  by_cases horder : s.frame.blockSize ≤ s.pcfg.order.toNat
  · rw [List.drop_of_length_le (hlen.trans_le horder)]
    exact exec_recon_of_order_ge hready hlegal hshift hcoefs horder
  · have hhist : (xs.take s.pcfg.order.toNat).reverse.length = s.pcfg.order.toNat := by simp; omega
    have hloop := reaches_rewriteLoop (T := fun i => .recon b i c s.pcfg.shiftAmount) (u := s)
      (hist := (xs.take s.pcfg.order.toNat).reverse) (xs := xs.drop s.pcfg.order.toNat)
      (fun u hist r rest hlo hi hu => advance_recon hlo hi hu) (by omega) (by rw [hhist, List.length_drop]; omega)
      (by simpa using hholds)
    rw [hhist, ← reconstructed_eq_rewritten] at hloop
    have hbound : (xs.drop s.pcfg.order.toNat).length + 1 < Config.maxBurst := by
      have := s.frame.blockSize_lt
      rw [List.length_drop]
      unfold Config.maxBurst
      omega
    exact exec_recon_of_reaches hready hlegal hshift hcoefs hbound hloop (by simp)

end

/-- Settles O30: RECON's coefficients and shift are those of R126 and R127 (`predictorCoefs_eq`, `shiftAmount_eq`); its
loop is `exec_recon_of_holds`, and with ORDER ≥ N `exec_recon_of_order_ge`. -/
theorem reconFollowsTheRecurrence : Obligations.ReconFollowsTheRecurrence := by
  intro s b xs hready hlegal hshift hvalid
  obtain ⟨c, hcoefs, hlen⟩ := State.predictorCoefs_ok hlegal hvalid
  refine ⟨fun hxs hholds => ?_, exec_recon_of_order_ge hready hlegal hshift hcoefs⟩
  obtain rfl := Except.ok.inj (hcoefs.symm.trans (State.predictorCoefs_eq hvalid))
  rw [exec_recon_of_holds hready hlegal hshift hcoefs hlen hxs hholds, PredictorConfig.shiftAmount_eq]

end Sys2Proof.Machine
end

section
/-! EMIT and DECOR: the check of the channel assignment, a sample out of range, DECOR's two passes, and what its
formulas undo (R134, R136 to R141). -/

namespace Sys2Proof.Machine

/-- Settles O36: each check is the command's first sequencer step (R136, R139). -/
theorem outputCommandsCheckTheChannelAssignment : Obligations.OutputCommandsCheckTheChannelAssignment := by
  intro s ⟨hmode, htask, hpace⟩
  refine ⟨fun b ch hcheck => ?_, fun hcheck => ?_⟩
  · exact exec_raises_of_reaches (i := .emit b ch) htask hpace (by rw [hmode]; rfl) maxBurst_pos (.refl _ s)
      (if_pos hcheck)
  · exact exec_raises_of_reaches (i := .decor) htask hpace (by rw [hmode]; rfl) maxBurst_pos (.refl _ s) (if_pos hcheck)

/-! ### A sample out of range -/

/-- A command of one or two passes over a block fits into the sequencer steps of one machine step. -/
theorem FrameConfig.twoPasses_lt (f : FrameConfig) {n : Nat} (h : n ≤ f.blockSize) :
    1 + f.blockSize + 1 + n < Config.maxBurst := by
  have := f.blockSize_lt
  unfold Config.maxBurst
  omega

theorem State.SameScratch.emitSample_raise {s u : State} (h : s.SameScratch u) {v : Sample} (hv : ¬s.inDepth [v])
    (ch i : Nat) (next : Task) : u.emitSample ch i v next = .raise (.bitDepthOverflow ch i) u := by
  have hrange : ¬s.frame.inRange v = true := fun hv' => hv (by simpa [FrameConfig.inRange] using hv')
  rw [State.emitSample, h.frame, if_neg hrange]

/-- A buffer that holds a run holds the beginning of it. -/
theorem State.holds_of_append {s : State} {b : Buf} {xs ys : List Sample} (h : s.holds b (xs ++ ys)) :
    s.holds b xs := by
  have htake := congrArg (List.take xs.length) h
  simpa [← List.map_take, List.take_range] using htake

/-- Settles O35: EMIT emits the samples in range (`reaches_emit`) and meets the next one out of range. -/
theorem emitStopsAtFirstSampleOutOfRange : Obligations.EmitStopsAtFirstSampleOutOfRange := by
  intro s b ch xs v ⟨hmode, htask, hpace⟩ h7 hch hlen hholds hdepth hv
  have hbound := s.frame.twoPasses_lt hlen.le
  refine exec_raises_of_reaches (i := .emit b ch) htask hpace (by rw [hmode]; rfl) (by omega)
    (reaches_emit h7 hch hlen.le (State.holds_of_append hholds) hdepth) ?_
  have hsame := (State.SameScratch.refl s).outFrom ch 0 xs
  have hread : s.readScratch b xs.length = some v := by
    simpa using State.readScratch_of_holds hholds (i := xs.length) (by simp)
  simp only [advance, advanceEmit, hsame.frame, if_pos hlen, hsame.entries, hread, hsame.emitSample_raise hv]

/-! ### DECOR's passes -/

/-- `T` is a pass over the block of `s`: at each index it emits to channel `ch` the output of the two samples there. -/
def StereoPass (s : State) (T : Nat → Task) (ch : Nat) (output : Sample → Sample → Sample) : Prop :=
  ∀ ⦃i : Nat⦄ ⦃a b : Sample⦄ ⦃u : State⦄, i < s.frame.blockSize → s.stereoPair i = .ok (a, b) → s.SameScratch u →
    advance (T i) u = u.emitSample ch i (output a b) (T (i + 1))

theorem State.SameScratch.stereoPair {s u : State} (h : s.SameScratch u) (i : Nat) :
    u.stereoPair i = s.stereoPair i := by
  simp only [State.stereoPair, h.entries]

theorem stereoPass_left (s : State) : StereoPass s .decorLeft 0 (decorrelateLeft s.frame.chasgn) := by
  intro i a b u hi hpair hu
  simp only [advance, advanceDecorLeft, hu.frame, if_pos hi, hu.stereoPair, hpair]

theorem stereoPass_right (s : State) : StereoPass s .decorRight 1 (decorrelateRight s.frame.chasgn) := by
  intro i a b u hi hpair hu
  simp only [advance, advanceDecorRight, hu.frame, if_pos hi, hu.stereoPair, hpair]

section
variable {s u : State} {T : Nat → Task} {ch : Nat} {output : Sample → Sample → Sample} {as bs : List Sample}
  (hpass : StereoPass s T ch output) (has : s.holds .s0 as) (hbs : s.holds .s1 bs)
include hpass has hbs

/-- The turn of a pass, by the run of outputs of the samples the buffers hold. -/
theorem StereoPass.turn {i : Nat} {v : Sample} (hi : i < s.frame.blockSize)
    (hv : (List.zipWith output as bs)[i]? = some v) (hu : s.SameScratch u) :
    advance (T i) u = u.emitSample ch i v (T (i + 1)) := by
  obtain ⟨a, b, ha, hb, rfl⟩ := List.getElem?_zipWith_eq_some.1 hv
  obtain ⟨hia, rfl⟩ := List.getElem?_eq_some_iff.1 ha
  obtain ⟨hib, rfl⟩ := List.getElem?_eq_some_iff.1 hb
  refine hpass hi ?_ hu
  simp only [State.stereoPair, State.readScratch_of_holds has hia, State.readScratch_of_holds hbs hib]

/-- A pass writes its outputs as far as they are in range (R139). -/
theorem StereoPass.reaches {vs : List Sample} (hvs : vs <+: List.zipWith output as bs)
    (hlen : vs.length ≤ s.frame.blockSize) (hdepth : s.inDepth vs) (hu : s.SameScratch u) :
    Reaches vs.length (T 0) u (T vs.length) (u.outFrom ch 0 vs) := by
  have hloop := reaches_emitLoop (T := T) (ch := ch) (i := 0) (vs := vs) hu (fun j v u' hj hu' => ?_)
    (fun v hv => List.all_eq_true.1 hdepth v hv)
  · rwa [Nat.zero_add] at hloop
  · obtain ⟨hlt, rfl⟩ := List.getElem?_eq_some_iff.1 hj
    rw [Nat.zero_add]
    exact hpass.turn has hbs (hlt.trans_le hlen) (List.prefix_iff_getElem?.1 hvs j hlt) hu'

/-- A pass stops at an output out of range (R134, R141). -/
theorem StereoPass.raises {i : Nat} {v : Sample} (hi : i < s.frame.blockSize)
    (hv : (List.zipWith output as bs)[i]? = some v) (hdepth : ¬s.inDepth [v]) (hu : s.SameScratch u) :
    advance (T i) u = .raise (.bitDepthOverflow ch i) u := by
  rw [hpass.turn has hbs hi hv hu, hu.emitSample_raise hdepth]

end

section
variable {s : State} {as bs vs : List Sample} (h8 : 8 ≤ s.frame.chasgn.toNat) (has : s.holds .s0 as)
  (hbs : s.holds .s1 bs)
include h8 has hbs

/-- DECOR has written left outputs, all in range, as far as the block goes (R139). -/
theorem reaches_decorLeft (hvs : vs <+: List.zipWith (decorrelateLeft s.frame.chasgn) as bs)
    (hlen : vs.length ≤ s.frame.blockSize) (hdepth : s.inDepth vs) :
    Reaches (1 + vs.length) .decorStart s (.decorLeft vs.length) (s.outFrom 0 0 vs) := by
  have hstart : advance .decorStart s = .go (.decorLeft 0) s := if_neg (Nat.not_lt.2 h8)
  exact (Reaches.go hstart).trans ((stereoPass_left s).reaches has hbs hvs hlen hdepth (.refl s))

/-- With every left output in range, DECOR has written them all and then right outputs in range (R139). -/
theorem reaches_decorRight (hlen : as.length = s.frame.blockSize) (hlen' : bs.length = s.frame.blockSize)
    (hleft : s.inDepth (List.zipWith (decorrelateLeft s.frame.chasgn) as bs))
    (hvs : vs <+: List.zipWith (decorrelateRight s.frame.chasgn) as bs) (hdepth : s.inDepth vs) :
    Reaches (1 + s.frame.blockSize + 1 + vs.length) .decorStart s (.decorRight vs.length)
      ((s.outFrom 0 0 (List.zipWith (decorrelateLeft s.frame.chasgn) as bs)).outFrom 1 0 vs) := by
  have hsame := (State.SameScratch.refl s).outFrom 0 0 (List.zipWith (decorrelateLeft s.frame.chasgn) as bs)
  have hpass1 := reaches_decorLeft h8 has hbs List.prefix_rfl (by simp [hlen]) hleft
  rw [List.length_zipWith, hlen, hlen', min_self] at hpass1
  have hnext : advance (.decorLeft s.frame.blockSize)
      (s.outFrom 0 0 (List.zipWith (decorrelateLeft s.frame.chasgn) as bs)) = .go (.decorRight 0) _ :=
    if_neg (by rw [hsame.frame]; exact lt_irrefl _)
  have hvslen : vs.length ≤ s.frame.blockSize := by simpa [hlen, hlen'] using hvs.length_le
  exact (hpass1.trans (.go hnext)).trans ((stereoPass_right s).reaches has hbs hvs hvslen hdepth hsame)

end

/-- Settles O37: after both passes (`reaches_decorRight`) DECOR completes. -/
theorem decorWritesBothChannels : Obligations.DecorWritesBothChannels := by
  intro s as bs ⟨hmode, htask, hpace⟩ h8 hlen hlen' has hbs hleft hright
  have hlength : (List.zipWith (decorrelateRight s.frame.chasgn) as bs).length = s.frame.blockSize := by
    rw [List.length_zipWith, hlen, hlen', min_self]
  refine exec_completes_of_reaches (i := .decor) htask hpace (by rw [hmode]; rfl) (s.frame.twoPasses_lt hlength.le)
    (reaches_decorRight h8 has hbs hlen hlen' hleft List.prefix_rfl hright) ?_
  have hsame := ((State.SameScratch.refl s).outFrom 0 0
    (List.zipWith (decorrelateLeft s.frame.chasgn) as bs)).outFrom 1 0
    (List.zipWith (decorrelateRight s.frame.chasgn) as bs)
  exact if_neg (by rw [hsame.frame, hlength]; exact lt_irrefl _)

/-- Settles O38: the pass that meets the output stops there (`StereoPass.raises`), behind the outputs before
it. -/
theorem decorStopsAtFirstOutputOutOfRange : Obligations.DecorStopsAtFirstOutputOutOfRange := by
  refine ⟨fun s as bs a b ⟨hmode, htask, hpace⟩ h8 hlen hlt has hbs hleft hv => ?_,
    fun s as bs i v ⟨hmode, htask, hpace⟩ h8 hlen hlen' has hbs hleft hi hv hright => ?_⟩
  · have happend : List.zipWith (decorrelateLeft s.frame.chasgn) (as ++ [a]) (bs ++ [b]) =
        List.zipWith (decorrelateLeft s.frame.chasgn) as bs ++ [decorrelateLeft s.frame.chasgn a b] :=
      List.zipWith_append hlen
    have hlength : (List.zipWith (decorrelateLeft s.frame.chasgn) as bs).length = as.length := by simp [hlen]
    have hstop : (List.zipWith (decorrelateLeft s.frame.chasgn) (as ++ [a]) (bs ++ [b]))[as.length]? =
        some (decorrelateLeft s.frame.chasgn a b) := by
      rw [happend, ← hlength, List.getElem?_concat_length]
    have hreach := reaches_decorLeft h8 has hbs (happend ▸ List.prefix_append _ _) (hlength.trans_le hlt.le) hleft
    rw [hlength] at hreach
    have hbound := s.frame.twoPasses_lt hlt.le
    exact exec_raises_of_reaches (i := .decor) htask hpace (by rw [hmode]; rfl) (by omega) hreach
      ((stereoPass_left s).raises has hbs hlt hstop hv ((State.SameScratch.refl s).outFrom _ _ _))
  · obtain ⟨hin, -⟩ := List.getElem?_eq_some_iff.1 hi
    have hlt : i < s.frame.blockSize := by simpa [hlen, hlen'] using hin
    have hreach := reaches_decorRight h8 has hbs hlen hlen' hleft (List.take_prefix i _) hright
    rw [List.length_take_of_le hin.le] at hreach
    exact exec_raises_of_reaches (i := .decor) htask hpace (by rw [hmode]; rfl) (s.frame.twoPasses_lt hlt.le) hreach
      ((stereoPass_right s).raises has hbs hlt hi hv (((State.SameScratch.refl s).outFrom _ _ _).outFrom _ _ _))

/-! ### What the reversals undo -/

theorem decorrelateRight_leftSide (a b : Sample) : decorrelateRight 8 a b = a - b := rfl

theorem decorrelateLeft_sideRight (a b : Sample) : decorrelateLeft 9 a b = a + b := rfl

theorem decorrelateLeft_midSide (a b : Sample) :
    decorrelateLeft 10 a b = ((a <<< 1 ||| (b &&& 1#64)) + b).sshiftRight 1 := rfl

theorem decorrelateRight_midSide (a b : Sample) :
    decorrelateRight 10 a b = ((a <<< 1 ||| (b &&& 1#64)) - b).sshiftRight 1 := rfl

/-- An even word and a low bit share no bit, so R138's `|` adds them. -/
theorem shiftLeft_one_or_low_bit (a b : BitVec 64) : (a <<< 1) ||| (b &&& 1#64) = (a <<< 1) + (b &&& 1#64) := by
  refine (BitVec.add_eq_or_of_and_eq_zero _ _ ?_).symm
  ext i hi
  cases i <;> simp

/-- The low bit of a word is the parity of the integer it stands for. -/
theorem ofInt_and_one (x : Int) : BitVec.ofInt 64 x &&& 1#64 = BitVec.ofInt 64 (x % 2) := by
  refine BitVec.eq_of_toNat_eq ?_
  rw [BitVec.toNat_and, show (1#64).toNat = 1 from rfl, Nat.and_one_is_mod, BitVec.toNat_ofInt,
    BitVec.toNat_ofInt]
  omega

/-- The doubled mid value with the side's low bit put back is the sum of the channels (R138). -/
theorem mid_doubled_with_side_bit (l r : Int) :
    (BitVec.ofInt 64 ((l + r).fdiv 2) <<< 1) ||| (BitVec.ofInt 64 (l - r) &&& 1#64) = BitVec.ofInt 64 (l + r) := by
  have hdouble : BitVec.ofInt 64 ((l + r).fdiv 2) <<< 1 = BitVec.ofInt 64 ((l + r).fdiv 2 * 2) := by
    rw [← ofInt_toInt_mul_two_pow, BitVec.ofInt_mul, BitVec.ofInt_toInt, ← BitVec.ofInt_mul, pow_one]
  have hsum : (l + r).fdiv 2 * 2 + (l - r) % 2 = l + r := by
    rw [Int.fdiv_eq_ediv_of_nonneg _ (by decide)]
    omega
  rw [shiftLeft_one_or_low_bit, ofInt_and_one, hdouble, ← BitVec.ofInt_add, hsum]

/-- Half of twice a 32-bit value is the value (R138). -/
theorem sshiftRight_ofInt_double {x : Int} (hlo : -(2 ^ 31) ≤ x) (hhi : x < 2 ^ 31) :
    (BitVec.ofInt 64 (2 * x)).sshiftRight 1 = BitVec.ofInt 64 x := by
  refine BitVec.eq_of_toInt_eq ?_
  rw [BitVec.toInt_sshiftRight, BitVec.toInt_ofInt_eq_self (by decide) (by omega) (by omega),
    BitVec.toInt_ofInt_eq_self (by decide) (by omega) (by omega), Int.shiftRight_eq_div_pow]
  omega

theorem ofInt_sub_ofInt (x y : Int) : BitVec.ofInt 64 x - BitVec.ofInt 64 y = BitVec.ofInt 64 (x - y) :=
  sub_eq_iff_eq_add.2 (by rw [← BitVec.ofInt_add, sub_add_cancel])

/-- Settles O39: modes 8 and 9 are sums and differences modulo 2^64; mode 10 has twice each channel before
its shift. -/
theorem decorrelationRestoresTheChannels : Obligations.DecorrelationRestoresTheChannels := by
  intro l r hl hl' hr hr'
  refine ⟨rfl, ?_, ?_, rfl, ?_, ?_⟩
  · rw [decorrelateRight_leftSide, ofInt_sub_ofInt, sub_sub_cancel]
  · rw [decorrelateLeft_sideRight, ← BitVec.ofInt_add, sub_add_cancel]
  · rw [decorrelateLeft_midSide, mid_doubled_with_side_bit, ← BitVec.ofInt_add,
      show l + r + (l - r) = 2 * l by ring, sshiftRight_ofInt_double hl hl']
  · rw [decorrelateRight_midSide, mid_doubled_with_side_bit, ofInt_sub_ofInt,
      show l + r - (l - r) = 2 * r by ring, sshiftRight_ofInt_double hr hr']

end Sys2Proof.Machine
end

section
/-! FEND with the bits of the footer at hand (R142 to R145). -/

namespace Sys2Proof.Machine

theorem bitsValue_replicate_false (n : Nat) : bitsValue (List.replicate n false) = 0 := by
  induction n with
  | zero => rfl
  | succ n ih => rw [List.replicate_succ, bitsValue_cons, ih]; simp

theorem BitInput.padding_lt (p : BitInput) : p.padding < 8 := Nat.mod_lt _ (by decide)

/-! ### The two fields -/

/-- FEND reads the padding as one field (R143). -/
theorem reaches_footerPadding {s : State} (h : s.input.padding ≤ s.input.bits.length) :
    Reaches 8 .fendStart s (.reading 0 (bitsValue (s.input.bits.take s.input.padding)) .padding)
      (s.skipBits s.input.padding) := by
  have hlt := s.input.padding_lt
  have hstart : Reaches 1 .fendStart s (.reading s.input.padding 0 .padding) s := .go rfl
  exact (hstart.trans (reaches_field .padding h)).mono (by omega)

/-- Behind a padding of 0 FEND reads the CRC field, to be compared with the CRC-16 after the padding (R144). -/
theorem reaches_footerCrc {s : State} (h : s.input.padding + 16 ≤ s.input.bits.length)
    (hzero : bitsValue (s.input.bits.take s.input.padding) = 0) :
    Reaches 25 .fendStart s
      (.reading 0 (bitsValue ((s.input.bits.drop s.input.padding).take 16))
        (.footerCrc (s.input.advanceBy s.input.padding).crc16))
      (s.skipBits (s.input.padding + 16)) := by
  have hpad : s.input.padding ≤ s.input.bits.length := by omega
  have hpadding := reaches_footerPadding hpad
  rw [hzero] at hpadding
  have hcheck : Reaches 1 (.reading 0 0 .padding) (s.skipBits s.input.padding) _ _ := .go rfl
  have hfield := reaches_field (n := 16) (.footerCrc (s.input.advanceBy s.input.padding).crc16)
    (s := s.skipBits s.input.padding) (by rw [State.skipBits_bits hpad, List.length_drop]; omega)
  rw [State.skipBits_bits hpad, State.skipBits_skipBits] at hfield
  exact (hpadding.trans hcheck).trans hfield

/-! ### The three checks -/

theorem finishPadding_of_ne_zero {v : Nat} (h : v ≠ 0) (s : State) : finishPadding v s = .raise .invalidPadding s :=
  if_pos h

theorem finishFooterCrc_of_ne {want : BitVec 16} {v : Nat} (h : v ≠ want.toNat) (s : State) :
    finishFooterCrc want v s = .raise .crc16Mismatch s := if_pos h

theorem finishFooterCrc_of_tooLarge {want : BitVec 16} {v : Nat} {s : State} (h : v = want.toNat)
    (hsize : 2 ^ 31 - 1 < s.frameBytes) : finishFooterCrc want v s = .raise .frameTooLarge s :=
  (if_neg (not_not_intro h)).trans (if_pos hsize)

theorem finishFooterCrc_of_fits {want : BitVec 16} {v : Nat} {s : State} (h : v = want.toNat)
    (hsize : s.frameBytes ≤ 2 ^ 31 - 1) :
    finishFooterCrc want v s = .done { s with fsize := BitVec.ofNat 32 s.frameBytes, mode := .idle } :=
  (if_neg (not_not_intro h)).trans (if_neg hsize.not_gt)

/-! ### The obligations -/

theorem footerSteps_lt_maxBurst : 8 < Config.maxBurst ∧ 25 < Config.maxBurst := by decide

/-- Settles O40: both fields are at hand, and the CRC field is worth the CRC-16 it is the bits of. -/
theorem fendClosesTheFrame : Obligations.FendClosesTheFrame := by
  rintro s pad rest ⟨hmode, htask, hpace⟩ (rfl : pad = s.input.padding) hbits hsize
  have hzero : bitsValue (s.input.bits.take s.input.padding) = 0 := by
    rw [hbits, List.append_assoc, List.take_left' List.length_replicate, bitsValue_replicate_false]
  have hcrc : bitsValue ((s.input.bits.drop s.input.padding).take 16) =
      (s.input.advanceBy s.input.padding).crc16.toNat := by
    rw [hbits, List.append_assoc, List.drop_left' List.length_replicate, List.take_left' (natBits_length 16 _),
      bitsValue_natBits_of_lt (BitVec.isLt _)]
  have hlength : s.input.padding + 16 ≤ s.input.bits.length := by
    rw [hbits, List.length_append, List.length_append, List.length_replicate, natBits_length]
    omega
  rw [exec_completes_of_reaches (i := .fend) htask hpace (by rw [hmode]; rfl) footerSteps_lt_maxBurst.2
    (reaches_footerCrc hlength hzero) (finishFooterCrc_of_fits hcrc hsize), State.complete, ← htask]
  rfl

/-- Settles O41: FEND comes to the field whose check fails, and raises there. -/
theorem fendReportsPaddingThenCrcThenSize : Obligations.FendReportsPaddingThenCrcThenSize := by
  rintro s pad ⟨hmode, htask, hpace⟩ (rfl : pad = s.input.padding)
  have hlegal : legalityOf .fend s.mode = .ok := by rw [hmode]; rfl
  refine ⟨fun hlength hne => ?_, fun hlength hzero hne => ?_, fun hlength hzero heq hsize => ?_⟩
  · exact exec_raises_of_reaches (i := .fend) htask hpace hlegal footerSteps_lt_maxBurst.1
      (reaches_footerPadding hlength) (finishPadding_of_ne_zero hne _)
  · exact exec_raises_of_reaches (i := .fend) htask hpace hlegal footerSteps_lt_maxBurst.2
      (reaches_footerCrc hlength hzero) (finishFooterCrc_of_ne hne _)
  · exact exec_raises_of_reaches (i := .fend) htask hpace hlegal footerSteps_lt_maxBurst.2
      (reaches_footerCrc hlength hzero) (finishFooterCrc_of_tooLarge heq hsize)

end Sys2Proof.Machine
end

section
/-! FATAL and the events of the outside world (R153 to R155): in any state an event that is no reset and issues no
command leaves STATE, the error latch and the command in progress as they are, and FATAL rejects every command. -/

namespace Sys2Proof.Machine

/-- `t` has the STATE, the error latch and the command in progress of `s`. -/
def State.StatusFrame (s t : State) : Prop := t.mode = s.mode ∧ t.err = s.err ∧ t.task = s.task

theorem State.StatusFrame.refl (s : State) : s.StatusFrame s := ⟨rfl, rfl, rfl⟩

/-! ### Host accesses -/

theorem State.reject_statusFrame (s : State) : s.StatusFrame s.reject := ⟨rfl, rfl, rfl⟩

theorem State.drawFree_statusFrame (s : State) : s.StatusFrame s.drawFree := ⟨rfl, rfl, rfl⟩

theorem State.writeFrame_statusFrame (s : State) (f : FrameConfig) : s.StatusFrame (s.writeFrame f) := by
  rw [State.writeFrame_eq]
  split
  · exact s.reject_statusFrame
  · exact ⟨rfl, rfl, rfl⟩

theorem State.commitScratch_statusFrame (s : State) (v : Word) : s.StatusFrame (s.commitScratch v) := by
  simp [State.StatusFrame, State.commitScratch]

/-- The soft reset (R167) is the one register write that reaches STATE, the error latch or BUSY. -/
theorem State.writeAccepted_statusFrame (s : State) {r : Reg} {v : Word} (hreset : r = .ctrl → v.getLsbD 31 = false) :
    s.StatusFrame (s.writeAccepted r v) := by
  cases r with
  | ctrl =>
    rw [State.writeAccepted, hreset rfl]
    exact ⟨rfl, rfl, rfl⟩
  | blksize | fmt | outoff | outlen | outch => exact s.writeFrame_statusFrame _
  | sdataLo => exact s.commitScratch_statusFrame v
  | _ => exact ⟨rfl, rfl, rfl⟩

theorem State.writeRegister_statusFrame (s : State) {r : Reg} {v : Word} (hreset : r = .ctrl → v.getLsbD 31 = false) :
    s.StatusFrame (s.writeRegister r v) := by
  obtain ⟨-, -, hw⟩ | ⟨-, hw⟩ := s.writeRegister_cases r v <;> rw [hw]
  · exact s.reject_statusFrame
  · exact s.writeAccepted_statusFrame hreset

/-- CTRL stands at 0x004 only (R21). -/
theorem hostWrite_statusFrame {s t : State} {off : BitVec 12} {v : Word}
    (hreset : off = 0x004 → v.getLsbD 31 = false) (hnext : hostWrite off v s = .next t) : s.StatusFrame t := by
  unfold hostWrite at hnext
  split at hnext
  · next h4 =>
    split at hnext
    · next r hr =>
      cases hnext
      refine s.writeRegister_statusFrame fun hctrl => hreset ?_
      rw [← offset_of_registerAt hr (of_decide_eq_true h4), hctrl]
      rfl
    · cases hnext; exact .refl s
  · cases hnext

theorem State.readRegister_statusFrame {s t : State} {r : Reg} (hnext : s.readRegister r = .next t) :
    s.StatusFrame t := by
  obtain ⟨-, -, hr⟩ | ⟨-, ⟨-, hr⟩ | ⟨-, hr⟩ | ⟨-, -, hr⟩⟩ := s.readRegister_cases r <;> rw [hr] at hnext
  · cases hnext; exact s.drawFree_statusFrame
  · unfold State.readSdataLo at hnext
    split at hnext <;> cases hnext
    exact ⟨rfl, rfl, rfl⟩
  · cases hnext; exact ⟨rfl, rfl, rfl⟩
  · cases hnext; exact ⟨rfl, rfl, rfl⟩

theorem hostRead_statusFrame {s t : State} {off : BitVec 12} (hnext : hostRead off s = .next t) : s.StatusFrame t := by
  unfold hostRead at hnext
  split at hnext
  · split at hnext
    · exact State.readRegister_statusFrame hnext
    · cases hnext; exact ⟨rfl, rfl, rfl⟩
  · cases hnext

theorem State.bufferRead_statusFrame (s : State) (ch idx : Nat) : s.StatusFrame (s.bufferRead ch idx) := by
  unfold State.bufferRead
  split
  · exact ⟨rfl, rfl, rfl⟩
  · exact s.drawFree_statusFrame

/-! ### Events -/

/-- The events that reset the block: the reset input and a write of CTRL with bit 31 set (R166, R167). -/
def Event.isReset (e : Event) : Prop := e = .hardReset ∨ ∃ v : Word, v.getLsbD 31 = true ∧ e = .write 0x004 v

/-- Of the events that issue no command, a reset alone changes STATE, the error latch or BUSY. -/
theorem outsideEvent_statusFrame {s t : State} {e : Event} (hreset : ¬e.isReset) (hnext : outsideEvent e s = .next t) :
    s.StatusFrame t := by
  cases e with
  | write off v =>
    refine hostWrite_statusFrame (fun hoff => ?_) hnext
    by_contra hbit
    exact hreset (.inr ⟨v, Bool.eq_true_of_not_eq_false hbit, by rw [hoff]⟩)
  | read off => exact hostRead_statusFrame hnext
  | narrow off => cases hnext
  | hardReset => exact absurd (.inl rfl) hreset
  | sourceByte | sourceEnd | reposition | bufferWrite => cases hnext; exact ⟨rfl, rfl, rfl⟩
  | bufferRead ch idx => cases hnext; exact s.bufferRead_statusFrame ch.toNat idx.toNat

/-- FATAL rejects the command of an event that issues one (R154). -/
theorem perform_statusFrame_of_fatal {s t : State} {e : Event} (hmode : s.mode = .fatal) (hreset : ¬e.isReset)
    (hnext : perform e s = .next t) : s.StatusFrame t := by
  unfold perform at hnext
  split at hnext
  · rw [issueWord_rejected (.inl hmode)] at hnext
    cases hnext
    exact s.reject_statusFrame
  · exact outsideEvent_statusFrame hreset hnext

/-- Settles O11: the event reaches an idle block, where it is a rejected command or an event that issues none. -/
theorem fatalIsLeftOnlyByReset : Obligations.FatalIsLeftOnlyByReset := by
  intro s t e rest hmode htask hevents hhard hsoft hnext
  have hreset : ¬e.isReset := fun h => h.elim hhard fun ⟨v, hv, he⟩ => hsoft v hv he
  rw [step_idle hevents htask] at hnext
  obtain ⟨hm, herr, ht⟩ := perform_statusFrame_of_fatal (s := { s with events := rest }) hmode hreset hnext
  exact ⟨hm.trans hmode, herr, ht.trans htask⟩

end Sys2Proof.Machine
end
